-- ==== Sys2Proof/Word.lean ====
section
/-! DEFINITION. The words of the SX840: bytes of the control link, slot values, sets of slots, and the
numbers of trunks, groups and slots (spec/00_scope.md, Conventions; R8, R32, R171). -/

namespace Sys2Proof

/-- A byte of the control link (R156). -/
abbrev Byte := BitVec 8

/-- A 16-bit number: a slot value held at the width of its trunk (R8), or a two-byte item of R172. -/
abbrev Value := BitVec 16

/-- A set of slots of one trunk; slot `n` is bit `n`, as in the five-byte slot set of R172. -/
abbrev SlotSet := BitVec 40

/-- A trunk T0..T7. -/
abbrev TrunkId := Fin 8

/-- A timing group G0..G3. -/
abbrev GroupId := Fin 4

/-- A slot number 0..39 (R1). -/
abbrev SlotId := Fin 40

/-- A time in ticks of 1/60 µs, that is six ticks to the unit of 0.1 µs, in which each nominal period
of R42 is a whole number. DESIGN CHOICE, log 1, unsafe. -/
abbrev Time := Nat

/-- What a receive data line carries in one frame: bit `n` is the level in bit time `n` of the frame, counted from the bit
time of the marker that opened it (R20, R38). The longest frame has 40 × 16 bit times. Log 16. -/
abbrev LineBits := BitVec 640

end Sys2Proof
end

