-- ==== Sys2Proof/Syntax.lean ====
section
/-! DEFINITION. The commands of the SX840: one constructor per row of spec/opcode_table.json. Operands of
requests are the raw numbers of R172, because an operand out of its values is refused with RANGE by the
owning command and is no ill-formed request. Operands of events are what the outside world gives. -/

namespace Sys2Proof

/-- A request as the request buffer holds it: its code and its payload (R160, R171). -/
structure Request where
  code : Byte
  payload : List Byte
  deriving DecidableEq, Repr

/-- A slot reference operand as carried: trunk 0..7 or 0xFF for absent, then slot (R3, R172). -/
structure SlotRef where
  trunk : Byte
  slot : Byte
  deriving DecidableEq, Repr

/-- The commands: requests with their operands, the two requests the link answers itself, and the events. -/
inductive Instr where
  /-- SET CONTEXT (R6). -/
  | setContext (source destination : Byte)
  /-- GET CONTEXT (R7). -/
  | getContext
  /-- FORMAT (R13). -/
  | format (trunk length width : Byte) (idle : Value) (keepForced : Byte)
  /-- A request with a code that names no command (R163). -/
  | unknownCommand (code : Byte) (payload : List Byte)
  /-- RX RUN (R18). -/
  | rxRun (trunk : Byte)
  /-- RX HOLD (R24), taken at `time`, by which R48 places a first holdover boundary. -/
  | rxHold (time : Time) (trunk : Byte)
  /-- TX RUN (R27), taken at `time`, by which R45 places a generator's first boundary. -/
  | txRun (time : Time) (trunk : Byte)
  /-- TX HOLD (R29). -/
  | txHold (trunk : Byte)
  /-- SET MASK (R33). -/
  | setMask (trunk direction : Byte) (slots : SlotSet)
  /-- TRUNK STATUS (R37). -/
  | trunkStatus (trunk clear : Byte)
  /-- GROUP MOVE (R41). -/
  | groupMove (trunk group : Byte)
  /-- GROUP SET (R43). -/
  | groupSet (group primary standby : Byte) (grace : Value) (policy rate : Byte) (longLimit : Value)
  /-- REVERT (R61). -/
  | revert (group : Byte)
  /-- METER CLEAR (R64). -/
  | meterClear (group : Byte)
  /-- GROUP STATUS (R65). -/
  | groupStatus (group : Byte)
  /-- SLIP STATUS (R80). -/
  | slipStatus (group trunk : Byte)
  /-- SLIP CLEAR (R81); the second operand is a trunk or 0xFF for ALL. -/
  | slipClear (group target : Byte)
  /-- MAP READ (R100). -/
  | mapRead (view trunk first count : Byte)
  /-- STAGE LINK (R105). -/
  | stageLink (destination source : SlotRef)
  /-- STAGE OPEN (R106). -/
  | stageOpen (destination : SlotRef)
  /-- STAGE FORCE (R107). -/
  | stageForce (destination : SlotRef) (value : Value)
  /-- STAGE HOLD (R106). -/
  | stageHold (destination : SlotRef)
  /-- STAGE PLAY (R108). -/
  | stagePlay (destination : SlotRef)
  /-- UNSTAGE (R110). -/
  | unstage (destination : SlotRef)
  /-- DISCARD (R111). -/
  | discard
  /-- COMMIT (R115, R116). -/
  | commit
  /-- BATCH STATUS (R122). -/
  | batchStatus
  /-- LIST READ (R123). -/
  | listRead (first count : Byte)
  /-- TAP START (R127). -/
  | tapStart (source : SlotRef) (count : Value)
  /-- TAP STOP (R132). -/
  | tapStop
  /-- TAP READ (R133). -/
  | tapRead (n : Byte)
  /-- PLAY LOAD (R136); the count byte of the message is the length of the list. -/
  | playLoad (values : List Value)
  /-- PLAY FLUSH (R137). -/
  | playFlush
  /-- PLAY STATUS (R140). -/
  | playStatus (clear : Byte)
  /-- ATTENTION READ (R148). -/
  | attentionRead
  /-- ACK (R149), with its source set. -/
  | ack (sources : Value)
  /-- ATTENTION MASK (R144), with its source set. -/
  | attentionMask (sources : Value)
  /-- LOG READ (R152). -/
  | logRead (n : Byte)
  /-- LOG CLEAR (R153). -/
  | logClear
  /-- IDENTIFY (R169). -/
  | identify
  /-- RESTART (R168). -/
  | restart
  /-- LINK STATUS (R170). -/
  | linkStatus (clear : Byte)
  /-- A marker on a receive line, at a position counted in bit times of its receive clock (R19). -/
  | huntMarker (trunk : TrunkId) (position : Nat)
  /-- An expected frame end at which the frame completes (R20, R22): whether the marker is present, and
  the data line's level in each of its bit times. -/
  | receiveFrameEnd (trunk : TrunkId) (time : Time) (marker : Bool) (line : LineBits)
  /-- The end of a tap run whose remaining count has reached 0 (R130). -/
  | tapRunEnd
  /-- A third consecutive missed marker (R21), at `time`, by which R48 places a first holdover boundary. -/
  | lossOfAlignment (trunk : TrunkId) (time : Time)
  /-- The boundary caused by a receive frame end of the followed reference (R47, R50). -/
  | groupBoundary (group : GroupId)
  /-- The pending generator boundary falls due (R48). -/
  | generatorBoundary (group : GroupId)
  /-- A transmit frame start caused by a boundary (R28). -/
  | transmitFrameStart (trunk : TrunkId)
  /-- A step of the uptime timer (R155). -/
  | millisecondStep
  /-- The grace expiry of a group (R57). -/
  | graceExpiry (group : GroupId)
  /-- The inter-byte timeout (R162). -/
  | interByteTimeout
  /-- A byte arrives on the control link, with its error indications (R158, R159). -/
  | linkByteArrival (byte : Byte) (parity framing overrun : Bool)
  /-- The message-complete event (R160). -/
  | messageComplete
  /-- The last byte of the head message is sent (R165); `strap` is the level of the rate strap pin, which
  is sampled when this ends the RESTART reply, since start-up then follows at once (R156, R167, R168). -/
  | messageSent (strap : Bool)
  /-- Power-on (R166). -/
  | powerOn
  /-- The reset input line is asserted (R166). -/
  | resetInputAsserted
  /-- Power is good, or the reset input is deasserted: start-up (R167), with the strap level sampled. -/
  | startUp (strap : Bool)
  /-- A request with a known code whose payload size is wrong (R163). -/
  | payloadSizeWrong (code : Byte) (payload : List Byte)
  deriving DecidableEq, Repr

end Sys2Proof
end

