-- ==== Sys2Proof/Decode.lean ====
section
/-! DEFINITION. The requests of the control link as codes and payloads (R163, R171, R172): which codes are
known, which payload size each has, the request a command row stands for (`encodeRequest`), the row that
takes a buffered request (`decodeRequest`), and the host's `decodeTableWord`. -/

namespace Sys2Proof

/-- The upper byte of a two-byte number; multi-byte numbers go most significant byte first (R171). -/
def hiByte (v : Value) : Byte := v.extractLsb' 8 8

/-- The lower byte of a two-byte number (R171). -/
def loByte (v : Value) : Byte := v.extractLsb' 0 8

/-- A two-byte number from its bytes, most significant first (R171). -/
def ofBytes (hi lo : Byte) : Value := hi ++ lo

/-- The two bytes of a number, most significant first (R171). -/
def bytes2 (v : Value) : List Byte := [hiByte v, loByte v]

/-- A list of two-byte numbers as bytes. -/
def valueBytes (vs : List Value) : List Byte := vs.flatMap bytes2

/-- The numbers of a list of byte pairs; an odd last byte, which no right payload has, is passed over. -/
def valuesOfBytes : List Byte → List Value
  | hi :: lo :: rest => ofBytes hi lo :: valuesOfBytes rest
  | _ => []

/-- The five bytes of a slot set: slot n is bit n mod 8 of byte n div 8 (R172). -/
def slotSetBytes (m : SlotSet) : List Byte :=
  [m.extractLsb' 0 8, m.extractLsb' 8 8, m.extractLsb' 16 8, m.extractLsb' 24 8, m.extractLsb' 32 8]

/-- The slot set of five bytes (R172). -/
def slotSetOfBytes (b0 b1 b2 b3 b4 : Byte) : SlotSet := b4 ++ b3 ++ b2 ++ b1 ++ b0

/-- The codes of the commands that take no operands, one operand byte, and so on, are the table of R172:
the payload size of a command other than PLAY LOAD, or nothing for a code that names no such command. -/
def fixedPayloadSize (code : Byte) : Option Nat :=
  match code.toNat with
  | 0x01 => some 0 | 0x02 => some 0 | 0x03 => some 2 | 0x04 => some 0 | 0x05 => some 1
  | 0x10 => some 6 | 0x11 => some 2 | 0x12 => some 1 | 0x13 => some 1 | 0x14 => some 1
  | 0x15 => some 1 | 0x16 => some 7
  | 0x20 => some 9 | 0x21 => some 2 | 0x22 => some 1 | 0x23 => some 1 | 0x24 => some 1
  | 0x28 => some 2 | 0x29 => some 2
  | 0x30 => some 4 | 0x31 => some 2 | 0x32 => some 4 | 0x33 => some 2 | 0x34 => some 2
  | 0x35 => some 2 | 0x36 => some 0 | 0x37 => some 0 | 0x38 => some 0 | 0x39 => some 2
  | 0x3A => some 4
  | 0x40 => some 4 | 0x41 => some 0 | 0x42 => some 1 | 0x49 => some 0 | 0x4A => some 1
  | 0x50 => some 0 | 0x51 => some 2 | 0x52 => some 2 | 0x58 => some 1 | 0x59 => some 0
  | _ => none

/-- The code of PLAY LOAD, the one command whose payload size varies (R172). -/
def playLoadCode : Byte := 0x48#8

/-- Whether a code names a command (R163, R172). -/
def knownCode (code : Byte) : Bool := code == playLoadCode || (fixedPayloadSize code).isSome

/-- Whether a payload has the size the layouts give its command (R163): for PLAY LOAD one more than twice
the count in its first byte, and never no bytes. -/
def payloadSizeRight (code : Byte) (payload : List Byte) : Bool :=
  if code = playLoadCode then
    match payload with
    | [] => false
    | c :: _ => payload.length == 1 + 2 * c.toNat
  else fixedPayloadSize code == some payload.length

/-- The bytes of a slot reference (R172). -/
def SlotRef.bytes (r : SlotRef) : List Byte := [r.trunk, r.slot]

/-- The request that a row stands for, laid out as R172 says; events stand for none. -/
def encodeRequest : Instr → Option Request
  | .identify => some ⟨0x01#8, []⟩
  | .restart => some ⟨0x02#8, []⟩
  | .setContext source destination => some ⟨0x03#8, [source, destination]⟩
  | .getContext => some ⟨0x04#8, []⟩
  | .linkStatus clear => some ⟨0x05#8, [clear]⟩
  | .format trunk length width idle keepForced =>
      some ⟨0x10#8, [trunk, length, width, hiByte idle, loByte idle, keepForced]⟩
  | .trunkStatus trunk clear => some ⟨0x11#8, [trunk, clear]⟩
  | .rxRun trunk => some ⟨0x12#8, [trunk]⟩
  | .rxHold _ trunk => some ⟨0x13#8, [trunk]⟩
  | .txRun _ trunk => some ⟨0x14#8, [trunk]⟩
  | .txHold trunk => some ⟨0x15#8, [trunk]⟩
  | .setMask trunk direction slots => some ⟨0x16#8, [trunk, direction] ++ slotSetBytes slots⟩
  | .groupSet group primary standby grace policy rate longLimit =>
      some ⟨0x20#8, [group, primary, standby, hiByte grace, loByte grace, policy, rate,
        hiByte longLimit, loByte longLimit]⟩
  | .groupMove trunk group => some ⟨0x21#8, [trunk, group]⟩
  | .groupStatus group => some ⟨0x22#8, [group]⟩
  | .revert group => some ⟨0x23#8, [group]⟩
  | .meterClear group => some ⟨0x24#8, [group]⟩
  | .slipStatus group trunk => some ⟨0x28#8, [group, trunk]⟩
  | .slipClear group target => some ⟨0x29#8, [group, target]⟩
  | .stageLink destination source => some ⟨0x30#8, destination.bytes ++ source.bytes⟩
  | .stageOpen destination => some ⟨0x31#8, destination.bytes⟩
  | .stageForce destination value => some ⟨0x32#8, destination.bytes ++ bytes2 value⟩
  | .stageHold destination => some ⟨0x33#8, destination.bytes⟩
  | .stagePlay destination => some ⟨0x34#8, destination.bytes⟩
  | .unstage destination => some ⟨0x35#8, destination.bytes⟩
  | .discard => some ⟨0x36#8, []⟩
  | .commit => some ⟨0x37#8, []⟩
  | .batchStatus => some ⟨0x38#8, []⟩
  | .listRead first count => some ⟨0x39#8, [first, count]⟩
  | .mapRead view trunk first count => some ⟨0x3A#8, [view, trunk, first, count]⟩
  | .tapStart source count => some ⟨0x40#8, source.bytes ++ bytes2 count⟩
  | .tapStop => some ⟨0x41#8, []⟩
  | .tapRead n => some ⟨0x42#8, [n]⟩
  | .playLoad values => some ⟨playLoadCode, BitVec.ofNat 8 values.length :: valueBytes values⟩
  | .playFlush => some ⟨0x49#8, []⟩
  | .playStatus clear => some ⟨0x4A#8, [clear]⟩
  | .attentionRead => some ⟨0x50#8, []⟩
  | .ack sources => some ⟨0x51#8, bytes2 sources⟩
  | .attentionMask sources => some ⟨0x52#8, bytes2 sources⟩
  | .logRead n => some ⟨0x58#8, [n]⟩
  | .logClear => some ⟨0x59#8, []⟩
  | .unknownCommand code payload => some ⟨code, payload⟩
  | .payloadSizeWrong code payload => some ⟨code, payload⟩
  | .huntMarker _ _ => none
  | .receiveFrameEnd _ _ _ _ => none
  | .tapRunEnd => none
  | .lossOfAlignment _ _ => none
  | .groupBoundary _ => none
  | .generatorBoundary _ => none
  | .transmitFrameStart _ => none
  | .millisecondStep => none
  | .graceExpiry _ => none
  | .interByteTimeout => none
  | .linkByteArrival _ _ _ _ => none
  | .messageComplete => none
  | .messageSent _ => none
  | .powerOn => none
  | .resetInputAsserted => none
  | .startUp _ => none

/-- The row of a request without operands. -/
def decodeNullary (code : Byte) : Option Instr :=
  match code.toNat with
  | 0x01 => some .identify
  | 0x02 => some .restart
  | 0x04 => some .getContext
  | 0x36 => some .discard
  | 0x37 => some .commit
  | 0x38 => some .batchStatus
  | 0x41 => some .tapStop
  | 0x49 => some .playFlush
  | 0x50 => some .attentionRead
  | 0x59 => some .logClear
  | _ => none

/-- The row of a request with one operand byte, taken at `time`. -/
def decodeUnary (time : Time) (code a : Byte) : Option Instr :=
  match code.toNat with
  | 0x05 => some (.linkStatus a)
  | 0x12 => some (.rxRun a)
  | 0x13 => some (.rxHold time a)
  | 0x14 => some (.txRun time a)
  | 0x15 => some (.txHold a)
  | 0x22 => some (.groupStatus a)
  | 0x23 => some (.revert a)
  | 0x24 => some (.meterClear a)
  | 0x42 => some (.tapRead a)
  | 0x4A => some (.playStatus a)
  | 0x58 => some (.logRead a)
  | _ => none

/-- The row of a request with two operand bytes. -/
def decodeBinary (code a b : Byte) : Option Instr :=
  match code.toNat with
  | 0x03 => some (.setContext a b)
  | 0x11 => some (.trunkStatus a b)
  | 0x21 => some (.groupMove a b)
  | 0x28 => some (.slipStatus a b)
  | 0x29 => some (.slipClear a b)
  | 0x31 => some (.stageOpen ⟨a, b⟩)
  | 0x33 => some (.stageHold ⟨a, b⟩)
  | 0x34 => some (.stagePlay ⟨a, b⟩)
  | 0x35 => some (.unstage ⟨a, b⟩)
  | 0x39 => some (.listRead a b)
  | 0x51 => some (.ack (ofBytes a b))
  | 0x52 => some (.attentionMask (ofBytes a b))
  | _ => none

/-- The row of a request with four operand bytes. -/
def decodeQuaternary (code a b c d : Byte) : Option Instr :=
  match code.toNat with
  | 0x30 => some (.stageLink ⟨a, b⟩ ⟨c, d⟩)
  | 0x32 => some (.stageForce ⟨a, b⟩ (ofBytes c d))
  | 0x3A => some (.mapRead a b c d)
  | 0x40 => some (.tapStart ⟨a, b⟩ (ofBytes c d))
  | _ => none

/-- The row of a request whose payload has the size of its command. -/
def decodeSized (time : Time) (code : Byte) (payload : List Byte) : Option Instr :=
  if code = playLoadCode then some (.playLoad (valuesOfBytes payload.tail))
  else
    match payload with
    | [] => decodeNullary code
    | [a] => decodeUnary time code a
    | [a, b] => decodeBinary code a b
    | [a, b, c, d] => decodeQuaternary code a b c d
    | [a, b, c, d, e, f] => if code = 0x10#8 then some (.format a b c (ofBytes d e) f) else none
    | [a, b, c, d, e, f, g] =>
        if code = 0x16#8 then some (.setMask a b (slotSetOfBytes c d e f g)) else none
    | [a, b, c, d, e, f, g, h, i] =>
        if code = 0x20#8 then some (.groupSet a b c (ofBytes d e) f g (ofBytes h i)) else none
    | _ => none

/-- The row that takes a buffered request at `time` (R163): an unknown code, a wrong size, or the command. -/
def decodeRequest (time : Time) (r : Request) : Option Instr :=
  if knownCode r.code then
    if payloadSizeRight r.code r.payload then decodeSized time r.code r.payload
    else some (.payloadSizeWrong r.code r.payload)
  else some (.unknownCommand r.code r.payload)

/-- No row of spec/opcode_table.json gives bits, so no word spells a row (log 15). -/
def decodeTableWord (_nbits _w : Nat) : Option Instr := none

end Sys2Proof
end

