-- ==== Sys2Proof/Config.lean ====
section
/-! DEFINITION. What the part fixes: capacities and identity figures (R66, R95, R102, R126, R135, R150,
R162, R169), and the one free value, the order the spec leaves open in R150. -/

namespace Sys2Proof.Config

/-- Entries of the change list (R102, R103). -/
def changeListCapacity : Nat := 64

/-- Values of the capture queue and of the playout queue (R126, R135). -/
def queueCapacity : Nat := 64

/-- Records of the fault log (R150). -/
def logCapacity : Nat := 16

/-- Completed frames of one frame store (R66). -/
def storeCapacity : Nat := 3

/-- The largest fan-out of a source slot in the projected map (R95). -/
def fanoutLimit : Nat := 12

/-- The gap count at which the inter-byte timeout occurs (R162). -/
def gapLimit : Nat := 21

/-- IDENTIFY figures (R169). -/
def vendorCode : Value := 0x3A71#16
/-- IDENTIFY figures (R169). -/
def partCode : Value := 0x0840#16
/-- IDENTIFY figures (R169). -/
def revision : Byte := 1#8

/-- Free value: whether the HOLDOVER record of a loss is written before its RX_LOSS record. R150: two
records written at the same event "are written in either order". The argument is a counter of State, so
each loss has an answer of its own; nothing in Lean can evaluate it. Log 7, safe. -/
opaque holdoverRecordFirst : Nat → Bool

end Sys2Proof.Config
end

