-- ==== Sys2Proof/Machine/State.lean ====
section
/-! DEFINITION. The state of the SX840 as plain data, with the value of every item after a reset. INVENTORY.md
lists each field with its rule. -/

namespace Sys2Proof.Machine

/-! ### Trunks -/

/-- A slot width (R12). -/
inductive Width where
  | w8
  | w16
  deriving DecidableEq, Repr

/-- The trunk format record (R12). -/
structure Format where
  length : Nat
  width : Width
  idle : Value
  keepForced : Bool
  deriving DecidableEq, Repr

/-- Receive section states (R17). -/
inductive RxState where
  | held
  | hunt
  | aligned
  deriving DecidableEq, Repr

/-- The receive section (R17). -/
structure Receive where
  state : RxState
  candidate : Option Nat
  missCount : Nat
  lossCount : BitVec 16
  deriving DecidableEq, Repr

/-- A mask of one direction: the active and the pending set (R32). -/
structure Mask where
  active : SlotSet
  pending : SlotSet
  deriving DecidableEq, Repr

/-- A completed frame: its sequence number and its L slot values at the trunk's W (R66). -/
structure Frame where
  seq : BitVec 16
  values : List Value
  deriving DecidableEq, Repr

/-- The frame store of a trunk (R66): the filling buffer (`none` when empty), the completed frames, oldest
first, and the next sequence number. -/
structure FrameStore where
  filling : Option (List Value)
  frames : List Frame
  next : BitVec 16
  deriving DecidableEq, Repr

/-- Transmit section states (R26). -/
inductive TxState where
  | held
  | run
  deriving DecidableEq, Repr

/-- The bit period of a frame sent (R39): the group's frame period, in ticks, divided by the L × W bits of
the frame, or one period of 32.768 MHz. -/
inductive BitClock where
  | divided (framePeriod bits : Nat)
  | fastest
  deriving DecidableEq, Repr

/-- The frame on a transmit line (R28, R38): for each slot nothing (undriven) or the value, with the width it is
sent at and the bit clock it is sent with. -/
structure LineFrame where
  slots : List (Option Value)
  width : Width
  clock : BitClock
  deriving DecidableEq, Repr

/-- The transmit section (R26), with the start that a boundary has caused and that is not yet taken (R28, R31). -/
structure Transmit where
  state : TxState
  firstSent : Bool
  lastSent : Vector (Option Value) 40
  line : Option LineFrame
  startDue : Bool
  deriving DecidableEq, Repr

/-- One trunk: format record, group membership, the two sections with their masks, the frame store. -/
structure Trunk where
  format : Format
  group : GroupId
  rx : Receive
  rxMask : Mask
  store : FrameStore
  tx : Transmit
  txMask : Mask
  deriving DecidableEq, Repr

/-! ### Timing groups -/

/-- Output policies (R42). -/
inductive Policy where
  | pass
  | mute
  | hold
  | stop
  deriving DecidableEq, Repr

/-- Nominal rates, in frames per second (R42). -/
inductive Rate where
  | r8000
  | r16000
  | r32000
  | r48000
  deriving DecidableEq, Repr

/-- The configuration record (R42). A primary of `none` is FREE, a standby of `none` is NONE. -/
structure GroupConfig where
  primary : Option TrunkId
  standby : Option TrunkId
  grace : BitVec 16
  policy : Policy
  rate : Rate
  longLimit : BitVec 16
  deriving DecidableEq, Repr

/-- Group states (R44). -/
inductive GroupState where
  | stopped
  | free
  | acquiring
  | locked
  | standby
  | holdover
  | degraded
  deriving DecidableEq, Repr

/-- Holdover origins (R44). -/
inductive Origin where
  | primary
  | standby
  deriving DecidableEq, Repr

/-- A boundary of a group: its time, and the reference whose frame end caused it, or `none` for the generator
(R47, R48, R51). -/
structure Boundary where
  time : Time
  cause : Option TrunkId
  deriving DecidableEq, Repr

/-- A group timing unit (R44), with the reference boundary that is due and not yet taken (R22, R47). -/
structure Group where
  config : GroupConfig
  state : GroupState
  origin : Origin
  graceTimer : Option (BitVec 16)
  lastLocked : Option (BitVec 16)
  previous : Option Boundary
  generator : Option Time
  due : Option Boundary
  meterCurrent : BitVec 16
  meterMaximum : BitVec 16
  longCount : BitVec 16
  deriving DecidableEq, Repr

/-! ### Slip control -/

/-- The copy of a frame taken, with the L and W of its source at the selection (R74). -/
structure Snapshot where
  seq : BitVec 16
  values : List Value
  length : Nat
  width : Width
  deriving DecidableEq, Repr

/-- A (group, source trunk) pair (R69, R73, R74): a mark of `none` is UNSET, a snapshot of `none` is
"nothing taken". -/
structure Pair where
  mark : Option (BitVec 16)
  repeats : BitVec 16
  drops : BitVec 16
  snapshot : Option Snapshot
  deriving DecidableEq, Repr

/-! ### Connection map and change list -/

/-- A full slot: trunk and slot number (R3). -/
structure FullSlot where
  trunk : TrunkId
  slot : SlotId
  deriving DecidableEq, Repr

/-- A connection map entry: its mode with the fields the mode carries (R82). -/
inductive MapEntry where
  | opened
  | link (source : FullSlot)
  | force (value : Value)
  | hold
  | play
  deriving DecidableEq, Repr

/-- A change list entry (R102); it is in flight when it carries a batch id, and staged otherwise. -/
structure Change where
  destination : FullSlot
  entry : MapEntry
  batch : Option Byte
  deriving DecidableEq, Repr

/-- The in-flight batch (R112). -/
structure Batch where
  id : Byte
  count : Nat
  remaining : Nat
  deriving DecidableEq, Repr

/-- The last batch record (R114). -/
structure BatchRecord where
  id : Byte
  applied : Nat
  deriving DecidableEq, Repr

/-! ### Capture tap and playout queue -/

/-- The remaining count of a tap run (R126). -/
inductive Remaining where
  | continuous
  | frames (n : BitVec 16)
  deriving DecidableEq, Repr

/-- The capture tap (R126). -/
structure Tap where
  active : Bool
  source : Option FullSlot
  remaining : Remaining
  queue : List Value
  overflow : BitVec 8
  dropLogged : Bool
  deriving DecidableEq, Repr

/-- The playout queue (R135). -/
structure Playout where
  queue : List Value
  underruns : BitVec 16
  episode : Bool
  deriving DecidableEq, Repr

/-! ### Attention unit and fault log -/

/-- The attention unit (R142): twelve flags, the sets of trunks and groups of the sources that have them, the
mask, and notice waiting. Sets are carried as in R172. -/
structure Attention where
  flags : BitVec 12
  rxLoss : BitVec 8
  refLost : BitVec 4
  refChange : BitVec 4
  degraded : BitVec 4
  slip : BitVec 4
  longFrame : BitVec 4
  mask : BitVec 12
  noticeWaiting : Bool
  deriving DecidableEq, Repr

/-- Reset kinds (R166). -/
inductive ResetKind where
  | power
  | line
  | command
  deriving DecidableEq, Repr

/-- What a fault log record says: its code, subject and detail (R150). -/
inductive LogEvent where
  | rxLoss (trunk : TrunkId)
  | holdover (group : GroupId) (origin : Origin)
  | locked (group : GroupId)
  | standby (group : GroupId)
  | degraded (group : GroupId)
  | policyStop (group : GroupId)
  | playUnderrun (trunk : TrunkId)
  | tapOverflow (trunk : TrunkId)
  | start (kind : ResetKind)
  deriving DecidableEq, Repr

/-- A fault log record (R150). -/
structure LogRecord where
  seq : BitVec 16
  event : LogEvent
  time : BitVec 32
  deriving DecidableEq, Repr

/-- The fault log (R150): its records, oldest first, and the log sequence counter. -/
structure FaultLog where
  records : List LogRecord
  next : BitVec 16
  deriving DecidableEq, Repr

/-! ### Control link -/

/-- Where the part stands between reset and operation (R160, R166, R167, R168). -/
inductive Phase where
  /-- A reset of this kind has taken effect and start-up has not begun. -/
  | inReset (kind : ResetKind)
  /-- READY has not been sent to its last byte. -/
  | startUp
  /-- Requests are accepted. -/
  | operating
  /-- A RESTART has been taken and its reply is not yet sent. -/
  | restarting
  deriving DecidableEq, Repr

/-- Line rates in bit/s (R156). -/
inductive LineRate where
  | baud115200
  | baud921600
  deriving DecidableEq, Repr

/-- Receive states of the link (section 9.3). -/
inductive LinkRxState where
  | hunting
  | length
  | body
  | check
  deriving DecidableEq, Repr

/-- The link receiver (section 9.3, R158, R162). The bytes held begin with the length byte. -/
structure Receiver where
  state : LinkRxState
  held : List Byte
  expected : Nat
  gap : Option Nat
  deriving DecidableEq, Repr

/-- Discard kinds (R161). -/
inductive DiscardKind where
  | parity
  | framing
  | overrun
  | length
  | check
  | timeout
  | kind
  | busyDrop
  deriving DecidableEq, Repr

/-- What an ATTENTION notice carries, taken when its sending begins (R147). -/
structure AttentionReport where
  flags : BitVec 12
  rxLoss : BitVec 8
  refLost : BitVec 4
  refChange : BitVec 4
  degraded : BitVec 4
  slip : BitVec 4
  longFrame : BitVec 4
  mask : BitVec 12
  deriving DecidableEq, Repr

/-- A message of the outgoing queue (R165): a reply with its code and payload, READY, or an ATTENTION notice,
which has no content until its sending begins (R147). -/
inductive OutMessage where
  | reply (code : Byte) (payload : List Byte)
  | ready (kind : ResetKind)
  | attention (content : Option AttentionReport)
  deriving DecidableEq, Repr

/-- The control link. The head of the outgoing queue is the message being sent (R165). -/
structure Link where
  phase : Phase
  rate : LineRate
  receiver : Receiver
  /-- A complete message (from its length byte to its check byte) whose message-complete event is to come. -/
  completed : Option (List Byte)
  requestBuffer : Option Request
  outgoing : List OutMessage
  contextSource : TrunkId
  contextDestination : TrunkId
  discards : Vector (BitVec 16) 8
  lastDiscard : Option DiscardKind
  deriving DecidableEq, Repr

/-! ### The machine -/

/-- The state of the part, the model's clock and choice counter, and the queue of waiting commands. -/
structure State where
  trunks : Vector Trunk 8
  groups : Vector Group 4
  pairs : Vector (Vector Pair 8) 4
  map : Vector (Vector MapEntry 40) 8
  changes : List Change
  batch : Option Batch
  nextBatch : Byte
  lastBatch : Option BatchRecord
  tap : Tap
  playout : Playout
  attention : Attention
  log : FaultLog
  uptime : BitVec 32
  link : Link
  /-- The time of the newest timed event taken; the model's own (log 1). -/
  now : Time
  /-- The counter the free value Config.holdoverRecordFirst is applied to; the model's own (log 7). -/
  choices : Nat
  /-- The commands waiting, first in first out. -/
  pending : List Instr
  deriving DecidableEq, Repr

/-- The reasons a step could stop with a fault. There are none: the spec names no condition that stops the
part; what it calls errors are statuses, discards, attention sources and log records, all of them state. -/
inductive Fault where
  deriving DecidableEq, Repr

/-- The reasons a step could be refused. -/
inductive Refusal where
  /-- Raised by an arm of exec whose command has no meaning yet; safe. No arm raises it any more. -/
  | notModelled (mnemonic : String)
  deriving DecidableEq, Repr

/-! ### Values after a reset -/

/-- Slots 0..23 (R32). -/
def resetSlots : SlotSet := 0xFFFFFF#40

/-- The format record after any reset (R12). -/
def Format.reset : Format := { length := 24, width := .w8, idle := 0#16, keepForced := false }

/-- The receive section after any reset (R17). -/
def Receive.reset : Receive := { state := .held, candidate := none, missCount := 0, lossCount := 0#16 }

/-- An empty frame store (R66); also what invalidation leaves (R23). -/
def FrameStore.empty : FrameStore := { filling := none, frames := [], next := 0#16 }

/-- Last-sent values that are all NONE (R26). -/
def noneSent : Vector (Option Value) 40 := Vector.replicate 40 none

/-- The transmit section after any reset (R26). -/
def Transmit.reset : Transmit :=
  { state := .held, firstSent := false, lastSent := noneSent, line := none, startDue := false }

/-- A mask after any reset (R32). -/
def Mask.reset : Mask := { active := resetSlots, pending := resetSlots }

/-- A trunk after any reset (R12, R17, R26, R32, R40, R66). -/
def Trunk.reset : Trunk :=
  { format := .reset, group := 0, rx := .reset, rxMask := .reset, store := .empty, tx := .reset, txMask := .reset }

/-- A configuration record after any reset (R42). -/
def GroupConfig.reset : GroupConfig :=
  { primary := none, standby := none, grace := 50#16, policy := .pass, rate := .r8000, longLimit := 0#16 }

/-- A group after any reset (R42, R44). -/
def Group.reset : Group :=
  { config := .reset, state := .stopped, origin := .primary, graceTimer := none, lastLocked := none,
    previous := none, generator := none, due := none, meterCurrent := 0#16, meterMaximum := 0#16,
    longCount := 0#16 }

/-- A pair after any reset (R69, R73, R74). -/
def Pair.reset : Pair := { mark := none, repeats := 0#16, drops := 0#16, snapshot := none }

/-- The capture tap after any reset (R126). -/
def Tap.reset : Tap :=
  { active := false, source := none, remaining := .frames 0#16, queue := [], overflow := 0#8, dropLogged := false }

/-- The playout queue after any reset (R135). -/
def Playout.reset : Playout := { queue := [], underruns := 0#16, episode := false }

/-- The attention unit after any reset (R142). -/
def Attention.reset : Attention :=
  { flags := 0#12, rxLoss := 0#8, refLost := 0#4, refChange := 0#4, degraded := 0#4, slip := 0#4,
    longFrame := 0#4, mask := 0xFFF#12, noticeWaiting := false }

/-- The fault log after a POWER reset (R154). -/
def FaultLog.empty : FaultLog := { records := [], next := 0#16 }

/-- The link receiver after any reset, and in HUNTING (section 9.3). The number of bytes still expected, for which the spec
gives no value there, is 0: DESIGN CHOICE, log 28, unsafe. -/
def Receiver.reset : Receiver := { state := .hunting, held := [], expected := 0, gap := none }

/-- The control link once a reset of this kind has taken effect (R5, R161, R166). The line rate stands at
115200 bit/s until start-up samples the strap: DESIGN CHOICE, log 10, unsafe. -/
def Link.reset (kind : ResetKind) : Link :=
  { phase := .inReset kind, rate := .baud115200, receiver := .reset, completed := none, requestBuffer := none,
    outgoing := [], contextSource := 0, contextDestination := 0, discards := Vector.replicate 8 0#16,
    lastDiscard := none }

/-- The machine right after a POWER reset has taken effect, before start-up (R166). The clock and the choice
counter of the model stand at 0: DESIGN CHOICE, log 1 and log 7. -/
def State.reset : State :=
  { trunks := Vector.replicate 8 .reset
    groups := Vector.replicate 4 .reset
    pairs := Vector.replicate 4 (Vector.replicate 8 .reset)
    map := Vector.replicate 8 (Vector.replicate 40 .opened)
    changes := []
    batch := none
    nextBatch := 1#8
    lastBatch := none
    tap := .reset
    playout := .reset
    attention := .reset
    log := .empty
    uptime := 0#32
    link := .reset .power
    now := 0
    choices := 0
    pending := [] }

end Sys2Proof.Machine
end

