-- ==== Sys2Proof/Machine/Operands.lean ====
section
/-! DEFINITION. Operand values and reply items (R172), slot sets (R2, R14), width conversion (R8, R9), slot
references (R3, R4), statuses (R172), and the accessors of the tables of State. -/

namespace Sys2Proof.Machine

/-! ### Accessors -/

/-- The trunk `t`. -/
def State.trunk (s : State) (t : TrunkId) : Trunk := s.trunks[t]

/-- Change the trunk `t`. -/
def State.modifyTrunk (t : TrunkId) (f : Trunk → Trunk) (s : State) : State :=
  { s with trunks := s.trunks.set t (f (s.trunk t)) }

/-- The group `g`. -/
def State.group (s : State) (g : GroupId) : Group := s.groups[g]

/-- Change the group `g`. -/
def State.modifyGroup (g : GroupId) (f : Group → Group) (s : State) : State :=
  { s with groups := s.groups.set g (f (s.group g)) }

/-- The pair of group `g` and source trunk `t`. -/
def State.pair (s : State) (g : GroupId) (t : TrunkId) : Pair := s.pairs[g][t]

/-- Replace every pair by a function of its group and source. -/
def State.mapPairs (f : GroupId → TrunkId → Pair → Pair) (s : State) : State :=
  { s with pairs := Vector.ofFn fun g => Vector.ofFn fun t => f g t (s.pair g t) }

/-- The active map entry of a destination (R82). -/
def State.entry (s : State) (d : FullSlot) : MapEntry := s.map[d.trunk][d.slot]

/-- Replace every active map entry by a function of its destination. -/
def State.mapEntries (f : FullSlot → MapEntry → MapEntry) (s : State) : State :=
  { s with map := Vector.ofFn fun t => Vector.ofFn fun d => f ⟨t, d⟩ (s.entry ⟨t, d⟩) }

/-- The eight trunks. -/
def allTrunks : List TrunkId := List.finRange 8

/-- The 320 destinations, trunk by trunk (R82). -/
def allSlots : List FullSlot := allTrunks.flatMap fun t => (List.finRange 40).map fun d => ⟨t, d⟩

/-! ### Saturating counters -/

/-- A counter that stops at its maximum (00_scope.md, Counters). -/
def satAdd {n : Nat} (v : BitVec n) (k : Nat) : BitVec n := BitVec.ofNat n (min (v.toNat + k) (2 ^ n - 1))

/-! ### Slot sets, values and widths -/

/-- The slots below `n` (R2). -/
def slotsBelow (n : Nat) : SlotSet := BitVec.ofNat 40 (2 ^ n - 1)

/-- Whether a slot is in a set. -/
def inSet (m : SlotSet) (d : SlotId) : Bool := m.getLsbD d.val

/-- The number of bits of a width (R12). -/
def Width.bits : Width → Nat
  | .w8 => 8
  | .w16 => 16

/-- Whether a value lies within 0..2^W−1 (R8). -/
def Width.holds (w : Width) (v : Value) : Bool := decide (v.toNat < 2 ^ w.bits)

/-- Width conversion (R9). -/
def convert (source target : Width) (v : Value) : Value :=
  match source, target with
  | .w8, .w16 => v <<< 8
  | .w16, .w8 => v >>> 8
  | .w8, .w8 => v
  | .w16, .w16 => v

/-- The W-bit value received in slot `d` of a line (R22, R38): slot 0 begins at the marker, slots follow with no gap, and
the first bit of a slot is its most significant. -/
def receivedValue (w : Width) (line : LineBits) (d : SlotId) : Value :=
  ((line.extractLsb' (d.val * w.bits) w.bits).reverse).setWidth 16

/-- The bits of one frame, L × W (R12). -/
def Format.bits (f : Format) : Nat := f.length * f.width.bits

/-! ### Statuses and replies -/

/-- The statuses of a reply (R172). -/
inductive Status where
  | ok
  | partly
  | unknownCommand
  | badLength
  | range
  | sectionRunning
  | groupRunning
  | refInUse
  | notAligned
  | fanout
  | playTaken
  | listFull
  | inFlight
  | nothingStaged
  | referencesPending
  | tapBusy
  | state
  | notStaged
  deriving DecidableEq, Repr

/-- The status byte (R172). -/
def Status.code : Status → Byte
  | .ok => 0x00#8
  | .partly => 0x01#8
  | .unknownCommand => 0x02#8
  | .badLength => 0x03#8
  | .range => 0x04#8
  | .sectionRunning => 0x05#8
  | .groupRunning => 0x06#8
  | .refInUse => 0x07#8
  | .notAligned => 0x08#8
  | .fanout => 0x09#8
  | .playTaken => 0x0A#8
  | .listFull => 0x0B#8
  | .inFlight => 0x0C#8
  | .nothingStaged => 0x0D#8
  | .referencesPending => 0x0E#8
  | .tapBusy => 0x0F#8
  | .state => 0x10#8
  | .notStaged => 0x11#8

/-- A reply: its status and the items after the status byte (R164). -/
structure Reply where
  status : Status
  items : List Byte
  deriving DecidableEq, Repr

/-- The payload of a reply (R164). -/
def Reply.payload (r : Reply) : List Byte := r.status.code :: r.items

/-- A refusal: the status byte alone (R164), with the state as it was. -/
def refuse (status : Status) (s : State) : Reply × State := (⟨status, []⟩, s)

/-- Status OK with these items. -/
def okWith (items : List Byte) (s : State) : Reply × State := (⟨.ok, items⟩, s)

/-! ### Operand values -/

/-- A trunk operand (R172). -/
def trunk? (b : Byte) : Option TrunkId := if h : b.toNat < 8 then some ⟨b.toNat, h⟩ else none

/-- A group operand (R172). -/
def group? (b : Byte) : Option GroupId := if h : b.toNat < 4 then some ⟨b.toNat, h⟩ else none

/-- A yes/no operand, a clear option, keep-forced (R172). -/
def yesNo? (b : Byte) : Option Bool :=
  match b.toNat with
  | 0 => some false
  | 1 => some true
  | _ => none

/-- A slot width operand (R172). -/
def width? (b : Byte) : Option Width :=
  match b.toNat with
  | 8 => some .w8
  | 16 => some .w16
  | _ => none

/-- An output policy operand (R172). -/
def policy? (b : Byte) : Option Policy :=
  match b.toNat with
  | 0 => some .pass
  | 1 => some .mute
  | 2 => some .hold
  | 3 => some .stop
  | _ => none

/-- A nominal rate operand (R172). -/
def rate? (b : Byte) : Option Rate :=
  match b.toNat with
  | 0 => some .r8000
  | 1 => some .r16000
  | 2 => some .r32000
  | 3 => some .r48000
  | _ => none

/-- A trunk, or 0xFF for the named mark (`some none`): a reference operand, FREE or NONE; a SET CONTEXT operand,
unchanged; the second operand of SLIP CLEAR, ALL (R172). -/
def trunkOrMark? (b : Byte) : Option (Option TrunkId) :=
  if b = 0xFF#8 then some none else (trunk? b).map some

/-- A mask direction (R172). -/
inductive Direction where
  | receive
  | transmit
  deriving DecidableEq, Repr

/-- A mask direction operand (R172). -/
def direction? (b : Byte) : Option Direction :=
  match b.toNat with
  | 0 => some .receive
  | 1 => some .transmit
  | _ => none

/-- A map view (R100). -/
inductive View where
  | active
  | projected
  deriving DecidableEq, Repr

/-- A map view operand (R172). -/
def view? (b : Byte) : Option View :=
  match b.toNat with
  | 0 => some .active
  | 1 => some .projected
  | _ => none

/-- A source set operand: bits 12..15 name no source (R144, R149, R172). -/
def sourceSet? (v : Value) : Option (BitVec 12) := if v.toNat < 4096 then some (v.setWidth 12) else none

/-- The trunk of a reference: the one it gives, or the context trunk of its role (R3, R4). -/
def resolveTrunk (context : TrunkId) (b : Byte) : Option TrunkId := if b = 0xFF#8 then some context else trunk? b

/-- The slot `b` of trunk `t`, when it lies below the trunk's current L (R1, R3). -/
def existingSlot? (s : State) (t : TrunkId) (b : Byte) : Option FullSlot :=
  if h : b.toNat < 40 ∧ b.toNat < (s.trunk t).format.length then some ⟨t, ⟨b.toNat, h.1⟩⟩ else none

/-- A slot reference resolved and range-checked (R3). -/
def resolve (s : State) (context : TrunkId) (r : SlotRef) : Option FullSlot :=
  (resolveTrunk context r.trunk).bind fun t => existingSlot? s t r.slot

/-- A destination operand, completed from the context destination trunk (R4). -/
def resolveDestination (s : State) (r : SlotRef) : Option FullSlot := resolve s s.link.contextDestination r

/-- A source operand, completed from the context source trunk (R4). -/
def resolveSource (s : State) (r : SlotRef) : Option FullSlot := resolve s s.link.contextSource r

/-! ### Reply items -/

/-- A one-byte number (R172). -/
def natByte (n : Nat) : Byte := BitVec.ofNat 8 n

/-- yes/no (R172). -/
def boolByte (b : Bool) : Byte := if b then 1#8 else 0#8

/-- A trunk number (R172). -/
def trunkByte (t : TrunkId) : Byte := natByte t.val

/-- A group number (R172). -/
def groupByte (g : GroupId) : Byte := natByte g.val

/-- A full slot: trunk, slot (R172). -/
def FullSlot.bytes (d : FullSlot) : List Byte := [trunkByte d.trunk, natByte d.slot.val]

/-- A four-byte number, most significant byte first (R171, R172). -/
def bytes4 (v : BitVec 32) : List Byte :=
  [v.extractLsb' 24 8, v.extractLsb' 16 8, v.extractLsb' 8 8, v.extractLsb' 0 8]

/-- A one-byte item that may be absent: its mark byte, then the number or 0 (R172). -/
def optByte : Option Byte → List Byte
  | some b => [0#8, b]
  | none => [1#8, 0#8]

/-- A two-byte item that may be absent or NONE: its mark byte, then the number or 0 (R172). -/
def optValue : Option Value → List Byte
  | some v => 0#8 :: bytes2 v
  | none => 1#8 :: bytes2 0#16

/-- A full slot that may be absent: one mark byte, then trunk and slot or zeros (R172; log 13, DEDUCED). -/
def optSlot : Option FullSlot → List Byte
  | some d => 0#8 :: d.bytes
  | none => [1#8, 0#8, 0#8]

/-- A reference of a configuration record; 0xFF for FREE or NONE (R172). -/
def referenceByte : Option TrunkId → Byte
  | some t => trunkByte t
  | none => 0xFF#8

/-- A slot width (R172). -/
def Width.byte (w : Width) : Byte := natByte w.bits

/-- Receive states (R172). -/
def RxState.byte : RxState → Byte
  | .held => 0#8
  | .hunt => 1#8
  | .aligned => 2#8

/-- Transmit states (R172). -/
def TxState.byte : TxState → Byte
  | .held => 0#8
  | .run => 1#8

/-- Group states (R172). -/
def GroupState.byte : GroupState → Byte
  | .stopped => 0#8
  | .free => 1#8
  | .acquiring => 2#8
  | .locked => 3#8
  | .standby => 4#8
  | .holdover => 5#8
  | .degraded => 6#8

/-- Holdover origins (R172). -/
def Origin.byte : Origin → Byte
  | .primary => 0#8
  | .standby => 1#8

/-- Output policies (R172). -/
def Policy.byte : Policy → Byte
  | .pass => 0#8
  | .mute => 1#8
  | .hold => 2#8
  | .stop => 3#8

/-- Nominal rates (R172). -/
def Rate.byte : Rate → Byte
  | .r8000 => 0#8
  | .r16000 => 1#8
  | .r32000 => 2#8
  | .r48000 => 3#8

/-- Entry modes (R172). -/
def MapEntry.modeByte : MapEntry → Byte
  | .opened => 0#8
  | .link _ => 1#8
  | .force _ => 2#8
  | .hold => 3#8
  | .play => 4#8

/-- The source field of an entry in a record of a reply, 0 when absent (R172). -/
def MapEntry.sourceBytes : MapEntry → List Byte
  | .link source => source.bytes
  | _ => [0#8, 0#8]

/-- The force value field of an entry in a record of a reply, 0 when absent (R172). -/
def MapEntry.forceBytes : MapEntry → List Byte
  | .force v => bytes2 v
  | _ => bytes2 0#16

/-- The remaining count of a tap run: its mark byte for CONTINUOUS, then the number (R172). -/
def Remaining.bytes : Remaining → List Byte
  | .continuous => optValue none
  | .frames n => optValue (some n)

/-- Reset kinds (R172). -/
def ResetKind.byte : ResetKind → Byte
  | .power => 0#8
  | .line => 1#8
  | .command => 2#8

/-- Line rates (R172). -/
def LineRate.byte : LineRate → Byte
  | .baud115200 => 0#8
  | .baud921600 => 1#8

/-- The line rate chosen by the level of the strap (R156). -/
def LineRate.ofStrap (high : Bool) : LineRate := if high then .baud921600 else .baud115200

/-- The place of a discard kind among the eight counts of LINK STATUS (R170). -/
def DiscardKind.index : DiscardKind → Fin 8
  | .parity => 0
  | .framing => 1
  | .overrun => 2
  | .length => 3
  | .check => 4
  | .timeout => 5
  | .kind => 6
  | .busyDrop => 7

/-- The last discard kind; NONE is 0 and the kinds count on from 1 (R172). -/
def discardByte : Option DiscardKind → Byte
  | none => 0#8
  | some k => natByte (k.index.val + 1)

/-- The code, subject and detail bytes of a log record (R150, R172). -/
def LogEvent.bytes : LogEvent → List Byte
  | .rxLoss t => [0#8, trunkByte t, 0#8]
  | .holdover g origin => [1#8, groupByte g, origin.byte]
  | .locked g => [2#8, groupByte g, 0#8]
  | .standby g => [3#8, groupByte g, 0#8]
  | .degraded g => [4#8, groupByte g, 0#8]
  | .policyStop g => [5#8, groupByte g, 0#8]
  | .playUnderrun t => [6#8, trunkByte t, 0#8]
  | .tapOverflow t => [7#8, trunkByte t, 0#8]
  | .start kind => [8#8, 0xFF#8, kind.byte]

/-- The nine bytes of a log record in a LOG READ reply (R172). -/
def LogRecord.bytes (r : LogRecord) : List Byte := bytes2 r.seq ++ r.event.bytes ++ bytes4 r.time

end Sys2Proof.Machine
end

