-- ==== Sys2Proof/Machine/Flags.lean ====
section
/-! DEFINITION. The attention unit and the fault log: raising a source, pending sources and the line, what a
notice reports (R142 to R149), and writing a record (R150, R151). -/

namespace Sys2Proof.Machine

/-- A raising of an attention source, with the trunk or group it names (R143). -/
inductive Raising where
  | rxLoss (trunk : TrunkId)
  | refLost (group : GroupId)
  | refChange (group : GroupId)
  | degraded (group : GroupId)
  | slip (group : GroupId)
  | longFrame (group : GroupId)
  | batchDone
  | tapDone
  | tapOverflow
  | playEmpty
  | linkError
  | logWrap
  deriving DecidableEq, Repr

/-- The number of the source raised (R172). -/
def Raising.source : Raising → Fin 12
  | .rxLoss _ => 0
  | .refLost _ => 1
  | .refChange _ => 2
  | .degraded _ => 3
  | .slip _ => 4
  | .longFrame _ => 5
  | .batchDone => 6
  | .tapDone => 7
  | .tapOverflow => 8
  | .playEmpty => 9
  | .linkError => 10
  | .logWrap => 11

/-- The set that holds one source. -/
def sourceBit (n : Fin 12) : BitVec 12 := 1#12 <<< n.val

/-- The set that holds one trunk. -/
def trunkBit (t : TrunkId) : BitVec 8 := 1#8 <<< t.val

/-- The set that holds one group. -/
def groupBit (g : GroupId) : BitVec 4 := 1#4 <<< g.val

/-- Set the flag of a source and add the trunk or group named (R143). -/
def Attention.record (r : Raising) (a : Attention) : Attention :=
  let a := { a with flags := a.flags ||| sourceBit r.source }
  match r with
  | .rxLoss t => { a with rxLoss := a.rxLoss ||| trunkBit t }
  | .refLost g => { a with refLost := a.refLost ||| groupBit g }
  | .refChange g => { a with refChange := a.refChange ||| groupBit g }
  | .degraded g => { a with degraded := a.degraded ||| groupBit g }
  | .slip g => { a with slip := a.slip ||| groupBit g }
  | .longFrame g => { a with longFrame := a.longFrame ||| groupBit g }
  | .batchDone => a
  | .tapDone => a
  | .tapOverflow => a
  | .playEmpty => a
  | .linkError => a
  | .logWrap => a

/-- The pending sources: set and in the mask (R142). -/
def Attention.pendingSources (a : Attention) : BitVec 12 := a.flags &&& a.mask

/-- Raise a source (R143). When that makes it pending where it was not, a notice is asked for: notice waiting
becomes yes (R146), and the notice joins the outgoing queue at the end of the event (`finish`). -/
def Attention.raise (r : Raising) (a : Attention) : Attention :=
  let b := a.record r
  { b with noticeWaiting := a.noticeWaiting || (!a.flags.getLsbD r.source.val && a.mask.getLsbD r.source.val) }

/-- Raise a source of the part's attention unit (R143). -/
def State.raise (r : Raising) (s : State) : State := { s with attention := s.attention.raise r }

/-- The level of the attention line: asserted exactly when an enabled source is set (R145). -/
def State.attentionLine (s : State) : Bool := s.attention.pendingSources != 0#12

/-- Clear the named sources and their sets (R149). -/
def Attention.clear (sources : BitVec 12) (a : Attention) : Attention :=
  { a with
    flags := a.flags &&& ~~~sources
    rxLoss := if sources.getLsbD 0 then 0#8 else a.rxLoss
    refLost := if sources.getLsbD 1 then 0#4 else a.refLost
    refChange := if sources.getLsbD 2 then 0#4 else a.refChange
    degraded := if sources.getLsbD 3 then 0#4 else a.degraded
    slip := if sources.getLsbD 4 then 0#4 else a.slip
    longFrame := if sources.getLsbD 5 then 0#4 else a.longFrame }

/-- Replace the mask (R144). A set source that the new mask enables and the old one did not becomes pending, and
asks for a notice (R146). -/
def Attention.setMask (mask : BitVec 12) (a : Attention) : Attention :=
  { a with
    mask := mask
    noticeWaiting := a.noticeWaiting || (a.flags &&& mask &&& ~~~a.mask != 0#12) }

/-- What a notice carries, as the set and the mask stand (R147). -/
def Attention.report (a : Attention) : AttentionReport :=
  { flags := a.flags, rxLoss := a.rxLoss, refLost := a.refLost, refChange := a.refChange, degraded := a.degraded,
    slip := a.slip, longFrame := a.longFrame, mask := a.mask }

/-- A source set as a two-byte number; bits 12..15 are zero (R172). -/
def sourceSetBytes (m : BitVec 12) : List Byte := bytes2 (m.setWidth 16)

/-- A group set; bits 4..7 are zero (R172). -/
def groupSetByte (m : BitVec 4) : Byte := m.setWidth 8

/-- The attention set: flags, then the sets of trunks and groups in the order of the ATTENTION notice (R172). -/
def AttentionReport.setBytes (r : AttentionReport) : List Byte :=
  sourceSetBytes r.flags ++ [r.rxLoss, groupSetByte r.refLost, groupSetByte r.refChange, groupSetByte r.degraded,
    groupSetByte r.slip, groupSetByte r.longFrame]

/-- The ten bytes of an ATTENTION notice (R172). -/
def AttentionReport.bytes (r : AttentionReport) : List Byte := r.setBytes ++ sourceSetBytes r.mask

/-- Write a fault log record (R151): it takes the counter and the uptime, the counter advances modulo 65536, and a
record written to a full log removes the oldest and raises LOG_WRAP. -/
def State.writeRecord (e : LogEvent) (s : State) : State :=
  let r : LogRecord := { seq := s.log.next, event := e, time := s.uptime }
  if s.log.records.length < Config.logCapacity then
    { s with log := { records := s.log.records ++ [r], next := s.log.next + 1#16 } }
  else
    { s with log := { records := s.log.records.drop 1 ++ [r], next := s.log.next + 1#16 } }.raise .logWrap

end Sys2Proof.Machine
end

