-- ==== Sys2Proof/Machine/Ops.lean ====
section
/-! DEFINITION. What every command shares: the model's clock, the end of an event (notices and sending, R146,
R147, R165), discards and the check byte (R157, R161), the events that follow at once on another (`settle`), the
taking of a request (R163), and the resets with start-up (R166, R167). -/

namespace Sys2Proof.Machine

/-- The type of a meaning's answer. -/
abbrev Answer := Host.Outcome State Fault Refusal

/-- A timed event is taken at `t`, and never before an event already taken. DESIGN CHOICE, log 1. -/
def State.advance (t : Time) (s : State) : State := { s with now := max s.now t }

/-! ### The outgoing queue -/

/-- Whether a message is a reply. -/
def OutMessage.isReply : OutMessage → Bool
  | .reply _ _ => true
  | .ready _ => false
  | .attention _ => false

/-- Whether a message is an ATTENTION notice whose sending has not begun. -/
def OutMessage.isWaitingNotice : OutMessage → Bool
  | .attention none => true
  | .attention (some _) => false
  | .reply _ _ => false
  | .ready _ => false

/-- Whether a message is a READY notice. -/
def OutMessage.isReady : OutMessage → Bool
  | .ready _ => true
  | .reply _ _ => false
  | .attention _ => false

/-- Append a message to the outgoing queue (R165). -/
def State.enqueue (m : OutMessage) (s : State) : State :=
  { s with link := { s.link with outgoing := s.link.outgoing ++ [m] } }

/-- A notice asked for within an event joins the outgoing queue behind the reply or READY of that event
(R146, R165). -/
def State.queueNotice (s : State) : State :=
  if s.attention.noticeWaiting && !s.link.outgoing.any OutMessage.isWaitingNotice then
    s.enqueue (.attention none)
  else s

/-- The sending of the head begins. An ATTENTION notice takes its content, and notice waiting becomes no (R147). -/
def State.beginSending (s : State) : State :=
  match s.link.outgoing with
  | .attention none :: rest =>
      { s with
        link := { s.link with outgoing := .attention (some s.attention.report) :: rest }
        attention := { s.attention with noticeWaiting := false } }
  | _ => s

/-- The end of an event: the notice it asked for is queued, and the head's sending begins (R146, R165; log 12). -/
def State.finish (s : State) : State := s.queueNotice.beginSending

/-- Whether the outgoing queue holds a reply whose sending has not begun (R163): one behind the head. -/
def State.replyWaiting (s : State) : Bool := s.link.outgoing.tail.any OutMessage.isReply

/-! ### Bytes of a message -/

/-- One bit time of the CRC register of x^8+x^2+x+1 (R157). -/
def crcShift (r : Byte) : Byte := if r.msb then (r <<< 1) ^^^ 0x07#8 else r <<< 1

/-- One byte enters the CRC register, most significant bit first (R157). -/
def crcByte (r b : Byte) : Byte :=
  crcShift (crcShift (crcShift (crcShift (crcShift (crcShift (crcShift (crcShift (r ^^^ b))))))))

/-- The check byte over a list of bytes (R157). -/
def crc (bytes : List Byte) : Byte := bytes.foldl crcByte 0#8

/-- A message on the line: start byte, length, kind, code, payload and check byte (R171). -/
def messageBytes (kind code : Byte) (payload : List Byte) : List Byte :=
  let covered := natByte (payload.length + 2) :: kind :: code :: payload
  0xA5#8 :: covered ++ [crc covered]

/-- The bytes a message of the outgoing queue is sent as (R171, R172), once its sending has begun. -/
def OutMessage.bytes : OutMessage → List Byte
  | .reply code payload => messageBytes 0x02#8 code payload
  | .ready kind => messageBytes 0x03#8 0x01#8 [kind.byte]
  | .attention (some report) => messageBytes 0x03#8 0x02#8 report.bytes
  | .attention none => []

/-! ### Discards and the request buffer -/

/-- A message is discarded: its kind's count increases by 1, stopping at 65535, the kind becomes the last discard
kind, and LINK_ERROR is raised (R161). -/
def State.discardMessage (k : DiscardKind) (s : State) : State :=
  { s with
    link := { s.link with
      discards := s.link.discards.set k.index (satAdd s.link.discards[k.index] 1)
      lastDiscard := some k } }.raise .linkError

/-- Checks 3 to 5 of R160: a request enters the request buffer in operation and when the buffer is empty, and is
discarded with kind BUSY_DROP during start-up, while restarting, and when the buffer is occupied. -/
def State.offerRequest (r : Request) (s : State) : State :=
  if s.link.phase = .operating ∧ s.link.requestBuffer = none then
    { s with link := { s.link with requestBuffer := some r } }
  else s.discardMessage .busyDrop

/-- The message-complete event (R160): the check byte, the kind, then `offerRequest`. The bytes run from the length
byte to the check byte. -/
def State.completeMessage (m : List Byte) (s : State) : State :=
  let s := { s with link := { s.link with completed := none } }
  if m.getLast? = some (crc m.dropLast) then
    match m.dropLast with
    | _ :: kind :: code :: payload =>
        if kind = 0x01#8 then s.offerRequest ⟨code, payload⟩ else s.discardMessage .kind
    | _ => s.discardMessage .check
  else s.discardMessage .check

/-! ### Events that follow at once -/

/-- Whether the tap's remaining count has reached 0 in a run (R130). -/
def State.tapEndDue (s : State) : Bool := s.tap.active && s.tap.remaining == .frames 0#16

/-- The end of a tap run by its count (R130): the tap becomes IDLE and TAP_DONE is raised. -/
def State.endTapRun (s : State) : State := { s with tap := { s.tap with active := false } }.raise .tapDone

/-- Whether the gap count has reached 21 (R162). -/
def State.timeoutDue (s : State) : Bool := s.link.receiver.gap.any (Config.gapLimit ≤ ·)

/-- The inter-byte timeout (R162): the message is discarded with kind TIMEOUT and the receiver hunts. -/
def State.timeOut (s : State) : State :=
  { s with link := { s.link with receiver := .reset } }.discardMessage .timeout

/-- The end of a tap run, if due, as an event of its own. -/
def State.settleTap (s : State) : State := if s.tapEndDue then s.endTapRun.finish else s

/-- The message-complete event, if due, as an event of its own. -/
def State.settleMessage (s : State) : State :=
  match s.link.completed with
  | some m => (s.completeMessage m).finish
  | none => s

/-- The inter-byte timeout, if due, as an event of its own. -/
def State.settleTimeout (s : State) : State := if s.timeoutDue then s.timeOut.finish else s

/-- The events that follow at once on the event that caused them, and so come before any other command: the end of
a tap run (R130), the message-complete event (R158) and the inter-byte timeout (R162). DEDUCED, log 4. -/
def State.settle (s : State) : State := s.settleTap.settleMessage.settleTimeout

/-- Whether a reset is in effect and start-up has not begun (R166). -/
def State.inReset (s : State) : Bool :=
  match s.link.phase with
  | .inReset _ => true
  | .startUp => false
  | .operating => false
  | .restarting => false

/-- An event of the part: none occurs from a reset to its start-up (R166); otherwise what is due comes first, and
the event ends with its notice and the begin of sending. -/
def event (body : State → State) (s : State) : Answer :=
  if s.inReset then .next s else .next (body s.settle).finish

/-- One of the events of `settle` as a command of its own: it occurs when it is due. -/
def followOn (due : State → Bool) (body : State → State) (s : State) : Answer :=
  if s.inReset || !due s then .next s else .next (body s).finish

/-! ### The taking of a request -/

/-- What a command does when taken: the reply it forms and the state it leaves. -/
abbrev Handler := State → Reply × State

/-- The taking of a request (R163): the rule acts and forms its reply, the reply joins the outgoing queue and the
request buffer becomes empty. -/
def State.take (r : Request) (h : Handler) (s : State) : State :=
  let answer := h s
  { answer.2 with
    link := { answer.2.link with
      requestBuffer := none
      outgoing := answer.2.link.outgoing ++ [.reply r.code answer.1.payload] } }

/-- A request command. When the request buffer holds this request, the command is its taking. Otherwise it is the
request's arrival as a complete message that has passed checks 1 and 2 of R160, put to checks 3 to 5, and, once it
is in the buffer, its taking. In both cases it is taken only when the outgoing queue holds no reply whose sending
has not begun; until then it stays in the buffer (R163). DESIGN CHOICE, log 3. -/
def serve (r : Request) (h : Handler) : State → Answer :=
  event fun s =>
    let s := if s.link.requestBuffer = some r then s else s.offerRequest r
    if s.link.requestBuffer = some r ∧ s.replyWaiting = false then s.take r h else s

/-- The taking of the request that row `i` stands for. -/
def taken (i : Instr) (h : Handler) (s : State) : Answer :=
  match encodeRequest i with
  | some r => serve r h s
  | none => .next s

/-! ### Resets and start-up -/

/-- A reset takes effect (R166): every item has its value after a reset of that kind; the fault log keeps its
content through LINE and COMMAND (R154). The model's clock, choice counter and queue are no part of the chip. -/
def State.resetBy (kind : ResetKind) (s : State) : State :=
  { State.reset with
    log := if kind = .power then .empty else s.log
    link := .reset kind
    now := s.now
    choices := s.choices
    pending := s.pending }

/-- Start-up after a reset of this kind (R167): the strap is sampled, the uptime runs from 0, the START record is
written and READY is queued as the first message; a notice that the record asks for joins behind it (`finish`). -/
def State.startUpAfter (kind : ResetKind) (strap : Bool) (s : State) : State :=
  ({ s with link := { s.link with phase := .startUp, rate := .ofStrap strap } }.enqueue (.ready kind)).writeRecord
    (.start kind)

end Sys2Proof.Machine
end

