-- ==== Sys2Proof/Machine/Context.lean ====
section
/-! DEFINITION. The addressing context: SET CONTEXT and GET CONTEXT (R5, R6, R7). -/

namespace Sys2Proof.Machine

/-- The two trunks of the context as a reply carries them (R6, R7). -/
def Link.contextBytes (l : Link) : List Byte := [trunkByte l.contextSource, trunkByte l.contextDestination]

/-- SET CONTEXT (R6): each operand that names a trunk replaces that trunk of the context. -/
def handleSetContext (source destination : Byte) : Handler := fun s =>
  match trunkOrMark? source, trunkOrMark? destination with
  | some newSource, some newDestination =>
      let link := { s.link with
        contextSource := newSource.getD s.link.contextSource
        contextDestination := newDestination.getD s.link.contextDestination }
      okWith link.contextBytes { s with link := link }
  | _, _ => refuse .range s

/-- SET CONTEXT taken. -/
def execSetContext (source destination : Byte) (s : State) : Answer :=
  taken (.setContext source destination) (handleSetContext source destination) s

/-- GET CONTEXT (R7). -/
def handleGetContext : Handler := fun s => okWith s.link.contextBytes s

/-- GET CONTEXT taken. -/
def execGetContext (s : State) : Answer := taken .getContext handleGetContext s

end Sys2Proof.Machine
end

