-- ==== Sys2Proof/Machine/Batches.lean ====
section
/-! DEFINITION. The projected map with its checks (R93 to R98), and the application of in-flight entries with the
completion of the batch (R113, R114). -/

namespace Sys2Proof.Machine

/-- The layer a projected entry comes from (R93). -/
inductive Layer where
  | active
  | inFlight
  | staged
  deriving DecidableEq, Repr

/-- Layers and entry states (R172). -/
def Layer.byte : Layer → Byte
  | .active => 0#8
  | .inFlight => 1#8
  | .staged => 2#8

/-- Whether a change entry is the staged entry of destination `d` (R102). -/
def Change.stagedFor (d : FullSlot) (c : Change) : Bool := c.batch.isNone && c.destination == d

/-- Whether a change entry is the in-flight entry of destination `d` (R102). -/
def Change.inFlightFor (d : FullSlot) (c : Change) : Bool := c.batch.isSome && c.destination == d

/-- The number of staged entries (R122). -/
def State.stagedCount (s : State) : Nat := s.changes.countP (·.batch.isNone)

/-- The projected entry of a destination with its layer: staged, in flight, or active (R93). -/
def State.projectedLayer (s : State) (d : FullSlot) : MapEntry × Layer :=
  match s.changes.find? (Change.stagedFor d) with
  | some c => (c.entry, .staged)
  | none =>
    match s.changes.find? (Change.inFlightFor d) with
    | some c => (c.entry, .inFlight)
    | none => (s.entry d, .active)

/-- The projected map (R93). -/
def State.projected (s : State) (d : FullSlot) : MapEntry := (s.projectedLayer d).1

/-- The fan-out of a source slot in the projected map (R95). -/
def State.fanout (s : State) (source : FullSlot) : Nat :=
  allSlots.countP fun d => s.projected d == .link source

/-- Whether a destination other than `d` is PLAY in the active map or in a change entry (R98). -/
def State.playElsewhere (s : State) (d : FullSlot) : Bool :=
  (allSlots.any fun x => x != d && s.entry x == .play) ||
    s.changes.any fun c => c.destination != d && c.entry == .play

/-- The batch completes (R114): the last batch record is written, no batch is in flight, BATCH_DONE is raised. -/
def State.completeBatch (b : Batch) (s : State) : State :=
  { s with lastBatch := some { id := b.id, applied := b.count }, batch := none }.raise .batchDone

/-- The in-flight entries whose destination trunk satisfies `p`, in list order. -/
def State.inFlightOn (p : TrunkId → Bool) (s : State) : List Change :=
  s.changes.filter fun c => c.batch.isSome && p c.destination.trunk

/-- Write change entries into the active map, in list order, each the whole entry of its destination (R113). -/
def State.writeEntries (cs : List Change) (s : State) : State :=
  s.mapEntries fun d old =>
    match cs.reverse.find? (·.destination == d) with
    | some c => c.entry
    | none => old

/-- Apply every in-flight entry whose destination trunk satisfies `p` (R113): the entries are written, leave the
list, and lower the batch's remaining count; at 0 the batch completes (R114). -/
def State.applyInFlight (p : TrunkId → Bool) (s : State) : State :=
  let cs := s.inFlightOn p
  if cs.isEmpty then s
  else
    let s' := { s.writeEntries cs with
      changes := s.changes.filter fun c => !(c.batch.isSome && p c.destination.trunk) }
    match s.batch with
    | none => s'
    | some b =>
      if b.remaining ≤ cs.length then s'.completeBatch b
      else { s' with batch := some { b with remaining := b.remaining - cs.length } }

end Sys2Proof.Machine
end

