-- ==== Sys2Proof/Machine/Frames.lean ====
section
/-! DEFINITION. Outgoing frames: the outcome of a slot and the assembly of a frame (R84 to R91), underruns (R138),
the bit clock (R39), the transmit frame start (R28), and the bits on the line (R38). -/

namespace Sys2Proof.Machine

/-- The nominal period in ticks of 1/60 µs (R42). -/
def Rate.period : Rate → Nat
  | .r8000 => 7500
  | .r16000 => 3750
  | .r32000 => 1875
  | .r48000 => 1250

/-- The last locked period in ticks, or the nominal period when none is held (R48). -/
def Group.heldPeriod (g : Group) : Nat :=
  match g.lastLocked with
  | some v => 6 * v.toNat
  | none => g.config.rate.period

/-- The generator period (R48). -/
def Group.generatorPeriod (g : Group) : Nat :=
  match g.state with
  | .holdover => g.heldPeriod
  | .stopped => g.config.rate.period
  | .free => g.config.rate.period
  | .acquiring => g.config.rate.period
  | .locked => g.config.rate.period
  | .standby => g.config.rate.period
  | .degraded => g.config.rate.period

/-- The frame period that sets a transmit clock (R39). -/
def Group.framePeriod (g : Group) : Nat :=
  match g.state with
  | .holdover => g.heldPeriod
  | .locked => g.heldPeriod
  | .standby => g.heldPeriod
  | .stopped => g.config.rate.period
  | .free => g.config.rate.period
  | .acquiring => g.config.rate.period
  | .degraded => g.config.rate.period

/-- The bit clock of a frame (R39): one period of 32.768 MHz is 1875/1024 ticks. -/
def bitClock (framePeriod bits : Nat) : BitClock :=
  if framePeriod * 1024 < 1875 * bits then .fastest else .divided framePeriod bits

/-- Whether the output policy of a group is in effect (R58). -/
def Group.policyInEffect (g : Group) : Bool := g.state == .degraded

/-- What a slot is assembled from: nothing (undriven), a value, or the playout queue (R85). -/
inductive SlotOutcome where
  | undriven
  | value (v : Value)
  | playout
  deriving DecidableEq, Repr

/-- The last-sent value of a destination, or the idle value when it is NONE (R87, R90, R91). -/
def Trunk.heldValue (k : Trunk) (d : SlotId) : Value := k.tx.lastSent[d].getD k.format.idle

/-- The value of a linked source in a snapshot, converted from the width held in it (R89). -/
def Snapshot.slotValue (f : Snapshot) (target : Width) (d : SlotId) : Option Value :=
  if d.val < f.length then f.values[d.val]?.map (convert f.width target) else none

/-- A LINK destination of trunk `t` (R89). -/
def State.linkValue (s : State) (t : TrunkId) (source : FullSlot) : Value :=
  let k := s.trunk t
  match (s.pair k.group source.trunk).snapshot with
  | none => k.format.idle
  | some f => (f.slotValue k.format.width source.slot).getD k.format.idle

/-- The outcome of test 3: by the mode of the entry (R88 to R91). -/
def State.modeOutcome (s : State) (t : TrunkId) (d : SlotId) : SlotOutcome :=
  match s.entry ⟨t, d⟩ with
  | .opened => .value (s.trunk t).format.idle
  | .link source => .value (s.linkValue t source)
  | .force v => .value v
  | .hold => .value ((s.trunk t).heldValue d)
  | .play => .playout

/-- The outcome of a slot: the first test that applies (R85, R86, R87). The policy is the one in effect at the transmit
frame start, also where it was put in effect or lifted after the boundary that caused the start (DEDUCED, log 25). -/
def State.slotOutcome (s : State) (t : TrunkId) (d : SlotId) : SlotOutcome :=
  let k := s.trunk t
  let g := s.group k.group
  if !inSet k.txMask.active d then .undriven
  else if g.policyInEffect && g.config.policy == .mute then .value k.format.idle
  else if g.policyInEffect && g.config.policy == .hold then .value (k.heldValue d)
  else s.modeOutcome t d

/-- A driven slot updates its last-sent value (R84). -/
def State.sent (t : TrunkId) (d : SlotId) (v : Value) (s : State) : State :=
  s.modifyTrunk t fun k => { k with tx := { k.tx with lastSent := k.tx.lastSent.set d (some v) } }

/-- One underrun reported to the playout queue (R138). -/
def State.underrun (t : TrunkId) (s : State) : State :=
  let s' := { s with playout := { s.playout with underruns := satAdd s.playout.underruns 1, episode := true } }
  if s.playout.episode then s' else (s'.raise .playEmpty).writeRecord (.playUnderrun t)

/-- Assemble one slot: what it carries (`none` when undriven), and the state after it (R84, R91). -/
def State.assembleSlot (t : TrunkId) (d : SlotId) (s : State) : Option Value × State :=
  match s.slotOutcome t d with
  | .undriven => (none, s)
  | .value v => (some v, s.sent t d v)
  | .playout =>
    match s.playout.queue with
    | v :: rest =>
        let x := convert .w16 (s.trunk t).format.width v
        (some x, { s with playout := { s.playout with queue := rest } }.sent t d x)
    | [] =>
        let x := (s.trunk t).heldValue d
        (some x, (s.underrun t).sent t d x)

/-- Assemble slots in turn. The outcome of one does not depend on another (R85). -/
def State.assembleSlots (t : TrunkId) : List SlotId → State → List (Option Value) × State
  | [], s => ([], s)
  | d :: ds, s =>
    let first := s.assembleSlot t d
    let rest := State.assembleSlots t ds first.2
    (first.1 :: rest.1, rest.2)

/-- The slots of a frame of length `n`, in order (R1). -/
def frameSlots (n : Nat) : List SlotId := (List.finRange 40).filter (·.val < n)

/-- The pending set of a mask becomes active (R32). -/
def Mask.activate (m : Mask) : Mask := { m with active := m.pending }

/-- Assemble the outgoing frame of trunk `t` and begin to drive it (R28 steps 3 and 4, R39, R85). -/
def State.driveFrame (t : TrunkId) (s : State) : State :=
  let f := (s.trunk t).format
  let clock := bitClock (s.group (s.trunk t).group).framePeriod f.bits
  let frame := s.assembleSlots t (frameSlots f.length)
  frame.2.modifyTrunk t fun k =>
    { k with tx := { k.tx with firstSent := true, line := some { slots := frame.1, width := f.width, clock := clock } } }

/-- The transmit frame start of trunk `t` (R28): the pending mask becomes active, the trunk's in-flight entries are
applied (R117), the frame is assembled and driven. -/
def State.transmitStart (t : TrunkId) (s : State) : State :=
  ((s.modifyTrunk t fun k => { k with txMask := k.txMask.activate, tx := { k.tx with startDue := false } }).applyInFlight
    (· == t)).driveFrame t

/-- What a transmit line carries in a bit time: the data bit, `none` when undriven, and the marker (R38). -/
structure LineBit where
  data : Option Bool
  marker : Bool
  deriving DecidableEq, Repr

/-- Bit `n` of a frame sent (R38): slots in increasing order, most significant bit first, the marker high in the
first bit; after the last bit the data output is undriven and the marker low. -/
def LineFrame.bit (f : LineFrame) (n : Nat) : LineBit :=
  { data := (f.slots[n / f.width.bits]?.join).map fun v => v.getLsbD (f.width.bits - 1 - n % f.width.bits)
    marker := n == 0 }

/-- Whether the clock and marker outputs of a transmit line are driven (R26). -/
def Trunk.lineDriven (k : Trunk) : Bool := k.tx.state == .run && k.tx.firstSent

end Sys2Proof.Machine
end

