-- ==== Sys2Proof/Machine/Timing.lean ====
section
/-! DEFINITION. The group timing unit and slip control: selection (R70 to R74), the frame-period meter (R62, R63), the
boundary (R50, R51), entries to the group states (R45, R48, R49, R53 to R55), the stop (R46) with the transmit hold
(R29), reports of alignment (R52), and the invalidation of a frame store (R23). -/

namespace Sys2Proof.Machine

/-! ### Selection -/

/-- The completed frame with a sequence number (R67). -/
def FrameStore.frame? (store : FrameStore) (seq : BitVec 16) : Option Frame := store.frames.find? (·.seq == seq)

/-- Take the frame numbered `seq` of trunk `k` for a pair: the mark names it and the snapshot copies it (R74). -/
def Pair.takeFrame (k : Trunk) (seq : BitVec 16) (p : Pair) : Pair :=
  { p with
    mark := some seq
    snapshot := (k.store.frame? seq).map fun f =>
      { seq := f.seq, values := f.values, length := k.format.length, width := k.format.width } }

/-- The lag of a pair that has a mark, modulo 65536 (R68, R72). -/
def lag (newest mark : BitVec 16) : Nat := (newest - mark).toNat

/-- The selection of a pair with source trunk `k` at a boundary (R70, R71, R72). -/
def Pair.select (k : Trunk) (p : Pair) : Pair :=
  if k.rx.state = .aligned then
    match k.store.frames.getLast?, p.mark with
    | none, _ => { p with snapshot := none }
    | some newest, none =>
        if k.store.frames.length = 1 then p.takeFrame k newest.seq else p.takeFrame k (newest.seq - 1#16)
    | some newest, some m =>
        if lag newest.seq m = 0 then { p.takeFrame k m with repeats := satAdd p.repeats 1 }
        else if lag newest.seq m ≤ 2 then p.takeFrame k (m + 1#16)
        else { p.takeFrame k (newest.seq - 1#16) with drops := satAdd p.drops (lag newest.seq m - 2) }
  else { p with snapshot := none }

/-- Whether the selection counts a repeat or a drop (R72, R73). -/
def Pair.slips (k : Trunk) (p : Pair) : Bool :=
  match k.rx.state, k.store.frames.getLast?, p.mark with
  | .aligned, some newest, some m => lag newest.seq m = 0 || 3 ≤ lag newest.seq m
  | _, _, _ => false

/-- The selections of group `g` for its eight sources at a boundary (R70); each slip raises SLIP for `g` (R73). -/
def State.selectFrames (g : GroupId) (s : State) : State :=
  let s' := s.mapPairs fun g' t p => if g' = g then p.select (s.trunk t) else p
  if allTrunks.any fun t => (s.pair g t).slips (s.trunk t) then s'.raise (.slip g) else s'

/-! ### The meter and the last locked period -/

/-- The interval between two boundaries in whole units of 0.1 µs, stopping at 65535 (R51, R62). -/
def interval (previous next : Boundary) : BitVec 16 :=
  BitVec.ofNat 16 (min ((next.time - previous.time) / 6) 65535)

/-- Whether the boundary `b` records a long frame (R63). -/
def Group.longFrame (b : Boundary) (u : Group) : Bool :=
  match u.previous with
  | none => false
  | some p => u.config.longLimit != 0#16 && decide (u.config.longLimit < interval p b)

/-- The group's own record of a boundary: the meter (R62), the long-frame count (R63), the last locked period when
both boundaries have the same reference as cause (R51; also where the group left that reference between them without a
boundary of another cause, log 26, DEDUCED; an interval of no whole unit is outside its values and leaves it, log 17,
DEDUCED), and the previous boundary (R50). -/
def Group.recordBoundary (b : Boundary) (u : Group) : Group :=
  match u.previous with
  | none => { u with previous := some b, due := none }
  | some p =>
    let v := interval p b
    { u with
      previous := some b
      due := none
      meterCurrent := v
      meterMaximum := if u.meterMaximum < v then v else u.meterMaximum
      longCount := if u.longFrame b then satAdd u.longCount 1 else u.longCount
      lastLocked := if b.cause.isSome && b.cause == p.cause && v != 0#16 then some v else u.lastLocked }

/-! ### The boundary -/

/-- Whether trunk `k` is a member of group `g` whose transmit section is RUN. -/
def Trunk.runMember (g : GroupId) (k : Trunk) : Bool := k.group == g && k.tx.state == .run

/-- A start that a boundary caused is taken before the next boundary of the same group, as an event of its own
(R28; DEDUCED, log 6). -/
def State.settleStart (g : GroupId) (s : State) (t : TrunkId) : State :=
  if (s.trunk t).runMember g && (s.trunk t).tx.startDue then (s.transmitStart t).finish else s

/-- All starts of group `g` still due. -/
def State.settleStarts (g : GroupId) (s : State) : State := allTrunks.foldl (State.settleStart g) s

/-- Every member of `g` that is RUN has a transmit frame start (R28, R50). -/
def State.causeStarts (g : GroupId) (s : State) : State :=
  { s with trunks := Vector.ofFn fun t =>
      let k := s.trunk t
      if k.runMember g then { k with tx := { k.tx with startDue := true } } else k }

/-- A boundary of group `g` (R50): slip control selects, the meter and the group record it, LONG_FRAME is raised for a
long frame (R63), and the RUN members have their transmit frame starts. -/
def State.boundary (g : GroupId) (b : Boundary) (s : State) : State :=
  let s1 := (s.selectFrames g).modifyGroup g (Group.recordBoundary b)
  let s2 := if (s.group g).longFrame b then s1.raise (.longFrame g) else s1
  s2.causeStarts g

/-- A boundary, after the starts still due from the one before. -/
def State.takeBoundary (g : GroupId) (b : Boundary) (s : State) : State := (s.settleStarts g).boundary g b

/-- The boundary that a frame end of the followed reference has caused, if still due, as an event of its own: it comes
before anything that ends the following (R25, R47, R53, R61; DEDUCED, log 5). -/
def State.settleBoundary (g : GroupId) (s : State) : State :=
  match (s.group g).due with
  | some b => (s.takeBoundary g b).finish
  | none => s

/-! ### Group states -/

/-- Entry to LOCKED (R45, R49, R54, R61): grace timer and generator end, the LOCKED record is written. -/
def State.enterLocked (g : GroupId) (s : State) : State :=
  (s.modifyGroup g fun u => { u with state := .locked, graceTimer := none, generator := none }).writeRecord (.locked g)

/-- Entry to STANDBY (R49, R55, R57): as to LOCKED, with REF_CHANGE and the STANDBY record. -/
def State.enterStandby (g : GroupId) (s : State) : State :=
  ((s.modifyGroup g fun u => { u with state := .standby, graceTimer := none, generator := none }).raise
    (.refChange g)).writeRecord (.standby g)

/-- The first pending generator boundary of HOLDOVER entered at `entry` (R48). -/
def Group.firstHoldover (entry : Time) (u : Group) : Time :=
  match u.previous with
  | some b => b.time + u.heldPeriod * ((entry - b.time) / u.heldPeriod + 1)
  | none => entry + u.heldPeriod

/-- Entry to HOLDOVER at `entry` (R53): origin, grace timer, generator, REF_LOST and the HOLDOVER record. -/
def State.enterHoldover (g : GroupId) (origin : Origin) (entry : Time) (s : State) : State :=
  ((s.modifyGroup g fun u =>
      { u with
        state := .holdover
        origin := origin
        graceTimer := some u.config.grace
        generator := some (u.firstHoldover entry) }).raise (.refLost g)).writeRecord (.holdover g origin)

/-- The report "becomes ALIGNED" of trunk `t` to the group timing unit of its group (R52, R54, R55). -/
def State.becomesAligned (t : TrunkId) (s : State) : State :=
  let g := (s.trunk t).group
  let u := s.group g
  if u.config.primary = some t then
    match u.state with
    | .acquiring => s.enterLocked g
    | .holdover => (s.raise (.refChange g)).enterLocked g
    | .degraded => (s.raise (.refChange g)).enterLocked g
    | .stopped => s
    | .free => s
    | .locked => s
    | .standby => s
  else if u.config.standby = some t then
    match u.state with
    | .holdover => if u.origin = .standby then s.enterStandby g else s
    | .degraded => s.enterStandby g
    | .stopped => s
    | .free => s
    | .acquiring => s
    | .locked => s
    | .standby => s
  else s

/-- Whether group `u` follows trunk `t`: its primary in LOCKED, its standby in STANDBY (R47). -/
def Group.follows (t : TrunkId) (u : Group) : Bool :=
  (u.state == .locked && u.config.primary == some t) || (u.state == .standby && u.config.standby == some t)

/-- The report "leaves ALIGNED" of trunk `t` at `entry` (R52, R53). -/
def State.leavesAligned (t : TrunkId) (entry : Time) (s : State) : State :=
  let g := (s.trunk t).group
  let u := s.group g
  if u.follows t then s.enterHoldover g (if u.state = .standby then .standby else .primary) entry else s

/-- The start of a group at `time` (R45). -/
def State.startGroup (g : GroupId) (time : Time) (s : State) : State :=
  let s := s.modifyGroup g fun u =>
    { u with previous := none, lastLocked := none, meterMaximum := 0#16, origin := .primary, due := none }
  let u := s.group g
  match u.config.primary with
  | none => s.modifyGroup g fun u => { u with state := .free, generator := some (time + u.config.rate.period) }
  | some k =>
    if (s.trunk k).rx.state = .aligned then s.enterLocked g
    else
      s.modifyGroup g fun u =>
        { u with
          state := .acquiring
          generator := some (time + u.config.rate.period)
          graceTimer := some u.config.grace }

/-- The stop of a group (R46, R74): its marks become UNSET and its snapshots "nothing taken". -/
def State.stopGroup (g : GroupId) (s : State) : State :=
  (s.modifyGroup g fun u => { u with state := .stopped, graceTimer := none, generator := none, due := none }).mapPairs
    fun g' _ p => if g' = g then { p with mark := none, snapshot := none } else p

/-- Whether an entry is in mode FORCE. -/
def MapEntry.isForce : MapEntry → Bool
  | .force _ => true
  | .opened => false
  | .link _ => false
  | .hold => false
  | .play => false

/-- FORCE entries of trunk `t` become OPEN when its keep-forced is no (R92). -/
def State.clearForced (t : TrunkId) (s : State) : State :=
  if (s.trunk t).format.keepForced then s
  else s.mapEntries fun d e => if d.trunk = t ∧ e.isForce then .opened else e

/-- Whether a group has a RUN member. -/
def State.hasRunMember (g : GroupId) (s : State) : Bool := allTrunks.any fun t => (s.trunk t).runMember g

/-- The boundary due of a group that follows trunk `t`, before what ends the following or what its next frame end would
overtake (R53; DEDUCED, log 5). A boundary that another trunk's frame end has caused keeps waiting: R77 allows both
orders. -/
def State.settleFollower (t : TrunkId) (s : State) : State :=
  if (s.group (s.trunk t).group).follows t then s.settleBoundary (s.trunk t).group else s

/-- Whether every RUN member of the group of trunk `t` is `t` itself, so that its hold leaves none. -/
def State.lastRunMember (t : TrunkId) (s : State) : Bool :=
  allTrunks.all fun t' => t' == t || !(s.trunk t').runMember (s.trunk t).group

/-- The boundary due of the group of trunk `t`, before the hold that stops the group (DEDUCED, log 5). -/
def State.settleStopped (t : TrunkId) (s : State) : State :=
  if s.lastRunMember t then s.settleBoundary (s.trunk t).group else s

/-- A transmit hold of trunk `t`, steps 1 to 6 (R29, R30). -/
def State.holdTransmit (t : TrunkId) (s : State) : State :=
  let s := (s.applyInFlight (· == t)).modifyTrunk t fun k => { k with txMask := k.txMask.activate }
  let s := (s.clearForced t).modifyTrunk t fun k => { k with tx := .reset }
  let g := (s.trunk t).group
  if (s.group g).state ≠ .stopped ∧ s.hasRunMember g = false then s.stopGroup g else s

/-- The frame store of trunk `t` is invalidated, and every read mark with it as source becomes UNSET (R23). -/
def State.invalidate (t : TrunkId) (s : State) : State :=
  (s.modifyTrunk t fun k => { k with store := .empty }).mapPairs
    fun _ t' p => if t' = t then { p with mark := none } else p

end Sys2Proof.Machine
end

