-- ==== Sys2Proof/Machine/Groups.lean ====
section
/-! DEFINITION. Timing groups and slip control: GROUP MOVE (R41), GROUP SET (R43), REVERT (R61), METER CLEAR (R64), GROUP
STATUS (R65), SLIP STATUS (R80), SLIP CLEAR (R81), and the events GROUP_BOUNDARY (R50), GENERATOR_BOUNDARY (R48) and
GRACE_EXPIRY (R57, R59). -/

namespace Sys2Proof.Machine

/-- Whether a configuration record names trunk `t` (R41). -/
def GroupConfig.names (t : TrunkId) (c : GroupConfig) : Bool := c.primary == some t || c.standby == some t

/-- GROUP MOVE (R41). -/
def handleGroupMove (trunk group : Byte) : Handler := fun s =>
  match trunk? trunk, group? group with
  | some t, some g =>
      if (s.trunk t).tx.state ≠ .held then refuse .sectionRunning s
      else if (s.group (s.trunk t).group).config.names t then refuse .refInUse s
      else okWith [] (s.modifyTrunk t fun k => { k with group := g })
  | _, _ => refuse .range s

/-- GROUP MOVE taken. -/
def execGroupMove (trunk group : Byte) (s : State) : Answer := taken (.groupMove trunk group) (handleGroupMove trunk group) s

/-- A configuration record from its operands, every field within its values (R42, R43 check 3). -/
def config? (primary standby : Byte) (grace : Value) (policy rate : Byte) (longLimit : Value) : Option GroupConfig :=
  match trunkOrMark? primary, trunkOrMark? standby, policy? policy, rate? rate with
  | some k, some j, some p, some r =>
      if 1 ≤ grace.toNat ∧ grace.toNat ≤ 2000 then
        some { primary := k, standby := j, grace := grace, policy := p, rate := r, longLimit := longLimit }
      else none
  | _, _, _, _ => none

/-- The references of a record for group `g` (R43 check 4): each a member, the standby another trunk than the primary
and only beside a primary LINE(k). -/
def State.referencesValid (s : State) (g : GroupId) (c : GroupConfig) : Bool :=
  match c.primary, c.standby with
  | none, none => true
  | none, some _ => false
  | some k, none => (s.trunk k).group == g
  | some k, some j => (s.trunk k).group == g && (s.trunk j).group == g && j != k

/-- GROUP SET (R43). -/
def handleGroupSet (group primary standby : Byte) (grace : Value) (policy rate : Byte) (longLimit : Value) : Handler :=
  fun s =>
  match group? group with
  | none => refuse .range s
  | some g =>
      if (s.group g).state ≠ .stopped then refuse .groupRunning s
      else
        match config? primary standby grace policy rate longLimit with
        | none => refuse .range s
        | some c =>
            if s.referencesValid g c then okWith [] (s.modifyGroup g fun u => { u with config := c })
            else refuse .range s

/-- GROUP SET taken. -/
def execGroupSet (group primary standby : Byte) (grace : Value) (policy rate : Byte) (longLimit : Value) (s : State) :
    Answer :=
  taken (.groupSet group primary standby grace policy rate longLimit)
    (handleGroupSet group primary standby grace policy rate longLimit) s

/-- Whether the primary reference of a group is ALIGNED (R61). -/
def State.primaryAligned (s : State) (g : GroupId) : Bool :=
  (s.group g).config.primary.any fun k => (s.trunk k).rx.state == .aligned

/-- Whether the standby reference of a group is ALIGNED (R57). -/
def State.standbyAligned (s : State) (g : GroupId) : Bool :=
  (s.group g).config.standby.any fun j => (s.trunk j).rx.state == .aligned

/-- REVERT (R61). -/
def handleRevert (group : Byte) : Handler := fun s =>
  match group? group with
  | none => refuse .range s
  | some g =>
      if (s.group g).state ≠ .standby then refuse .state s
      else if s.primaryAligned g = false then refuse .notAligned s
      else okWith [] (((s.settleBoundary g).raise (.refChange g)).enterLocked g)

/-- REVERT taken. -/
def execRevert (group : Byte) (s : State) : Answer := taken (.revert group) (handleRevert group) s

/-- METER CLEAR (R64). -/
def handleMeterClear (group : Byte) : Handler := fun s =>
  match group? group with
  | none => refuse .range s
  | some g => okWith [] (s.modifyGroup g fun u => { u with meterMaximum := 0#16, longCount := 0#16 })

/-- METER CLEAR taken. -/
def execMeterClear (group : Byte) (s : State) : Answer := taken (.meterClear group) (handleMeterClear group) s

/-- The set of trunks that satisfy `p` (R172). -/
def trunkSet (p : TrunkId → Bool) : BitVec 8 := allTrunks.foldl (fun m t => if p t then m ||| trunkBit t else m) 0#8

/-- The configuration record in a reply (R65, R172). -/
def GroupConfig.bytes (c : GroupConfig) : List Byte :=
  [referenceByte c.primary, referenceByte c.standby] ++ bytes2 c.grace ++ [c.policy.byte, c.rate.byte] ++
    bytes2 c.longLimit

/-- The items of GROUP STATUS (R65). -/
def State.groupStatusBytes (s : State) (g : GroupId) : List Byte :=
  let u := s.group g
  u.config.bytes ++ [trunkSet fun t => (s.trunk t).group == g, trunkSet fun t => (s.trunk t).runMember g,
    u.state.byte, u.origin.byte] ++ bytes2 (u.graceTimer.getD 0#16) ++ optValue u.lastLocked ++
    bytes2 u.meterCurrent ++ bytes2 u.meterMaximum ++ bytes2 u.longCount ++ [boolByte u.policyInEffect]

/-- GROUP STATUS (R65). -/
def handleGroupStatus (group : Byte) : Handler := fun s =>
  match group? group with
  | none => refuse .range s
  | some g => okWith (s.groupStatusBytes g) s

/-- GROUP STATUS taken. -/
def execGroupStatus (group : Byte) (s : State) : Answer := taken (.groupStatus group) (handleGroupStatus group) s

/-- The items of SLIP STATUS (R80); sequence numbers go modulo 256. -/
def State.slipStatusBytes (s : State) (g : GroupId) (t : TrunkId) : List Byte :=
  let p := s.pair g t
  let k := s.trunk t
  bytes2 p.repeats ++ bytes2 p.drops ++ optByte (p.mark.map loByte) ++
    optByte (k.store.frames.getLast?.map fun f => loByte f.seq) ++ [natByte k.store.frames.length] ++
    optByte (p.snapshot.map fun f => loByte f.seq) ++ [k.rx.state.byte]

/-- SLIP STATUS (R80). -/
def handleSlipStatus (group trunk : Byte) : Handler := fun s =>
  match group? group, trunk? trunk with
  | some g, some t => okWith (s.slipStatusBytes g t) s
  | _, _ => refuse .range s

/-- SLIP STATUS taken. -/
def execSlipStatus (group trunk : Byte) (s : State) : Answer :=
  taken (.slipStatus group trunk) (handleSlipStatus group trunk) s

/-- SLIP CLEAR (R81): a target of `none` is ALL. -/
def handleSlipClear (group target : Byte) : Handler := fun s =>
  match group? group, trunkOrMark? target with
  | some g, some only =>
      okWith [] (s.mapPairs fun g' t p =>
        if g' = g ∧ (only = none ∨ only = some t) then { p with repeats := 0#16, drops := 0#16 } else p)
  | _, _ => refuse .range s

/-- SLIP CLEAR taken. -/
def execSlipClear (group target : Byte) (s : State) : Answer :=
  taken (.slipClear group target) (handleSlipClear group target) s

/-! ### Events -/

/-- GROUP_BOUNDARY (R47, R50): the boundary that a frame end of the followed reference has caused. -/
def execGroupBoundary (group : GroupId) (s : State) : Answer :=
  event (fun s =>
    match (s.group group).due with
    | some b => s.takeBoundary group b
    | none => s) s

/-- A generator boundary, due at `p` (R48): the boundary, then the next one a generator period later. -/
def State.generatorFires (g : GroupId) (p : Time) (s : State) : State :=
  ((s.advance p).takeBoundary g { time := p, cause := none }).modifyGroup g fun u =>
    { u with generator := some (p + u.generatorPeriod) }

/-- GENERATOR_BOUNDARY (R48). -/
def execGeneratorBoundary (group : GroupId) (s : State) : Answer :=
  event (fun s =>
    match (s.group group).generator with
    | some p => s.generatorFires group p
    | none => s) s

/-- Whether the grace expiry of a group is due (R56, R57). -/
def Group.expiryDue (u : Group) : Bool :=
  u.graceTimer == some 0#16 && (u.state == .acquiring || u.state == .holdover)

/-- A member of the STOP cascade is held if it is RUN (R59). -/
def State.cascadeHold (g : GroupId) (s : State) (t : TrunkId) : State :=
  if (s.trunk t).runMember g then s.holdTransmit t else s

/-- The STOP cascade (R59): every RUN member is held, then DEGRADED is raised and POLICY_STOP logged. -/
def State.stopCascade (g : GroupId) (s : State) : State :=
  ((allTrunks.foldl (State.cascadeHold g) s).raise (.degraded g)).writeRecord (.policyStop g)

/-- Entry to DEGRADED (R57 case 3): the generator goes on from its pending boundary. -/
def State.enterDegraded (g : GroupId) (s : State) : State :=
  ((s.modifyGroup g fun u => { u with state := .degraded }).raise (.degraded g)).writeRecord (.degraded g)

/-- The grace expiry (R57): the timer becomes absent, and the first case that applies is taken. -/
def State.expire (g : GroupId) (s : State) : State :=
  let s := s.modifyGroup g fun u => { u with graceTimer := none }
  if (s.group g).origin = .primary ∧ s.standbyAligned g then s.enterStandby g
  else if (s.group g).config.policy = .stop then s.stopCascade g
  else s.enterDegraded g

/-- GRACE_EXPIRY (R57). -/
def execGraceExpiry (group : GroupId) (s : State) : Answer :=
  event (fun s => if (s.group group).expiryDue then s.expire group else s) s

end Sys2Proof.Machine
end

