-- ==== Sys2Proof/Machine/LinkEvents.lean ====
section
/-! DEFINITION. The control link's commands and events: IDENTIFY (R169), RESTART (R168), LINK STATUS (R170), the two
requests the link answers itself (R163), bytes and messages (R158 to R162, R165), resets and start-up (R166, R167). -/

namespace Sys2Proof.Machine

/-- The figures of IDENTIFY (R169). -/
def identityBytes : List Byte :=
  bytes2 Config.vendorCode ++ bytes2 Config.partCode ++
    [Config.revision, 8#8, 40#8, 4#8, natByte Config.changeListCapacity, natByte Config.queueCapacity,
      natByte Config.logCapacity]

/-- IDENTIFY (R169). -/
def handleIdentify : Handler := fun s => okWith identityBytes s

/-- IDENTIFY taken. -/
def execIdentify (s : State) : Answer := taken .identify handleIdentify s

/-- RESTART (R168): the link becomes restarting. -/
def handleRestart : Handler := fun s => okWith [] { s with link := { s.link with phase := .restarting } }

/-- RESTART taken. -/
def execRestart (s : State) : Answer := taken .restart handleRestart s

/-- The items of LINK STATUS (R170). -/
def Link.statusBytes (l : Link) : List Byte :=
  valueBytes l.discards.toList ++ [discardByte l.lastDiscard, l.rate.byte]

/-- LINK STATUS (R170): the report, then the counts and the last kind cleared when asked. -/
def handleLinkStatus (clear : Byte) : Handler := fun s =>
  match yesNo? clear with
  | some c =>
      okWith s.link.statusBytes
        (if c then { s with link := { s.link with discards := Vector.replicate 8 0#16, lastDiscard := none } } else s)
  | none => refuse .range s

/-- LINK STATUS taken. -/
def execLinkStatus (clear : Byte) (s : State) : Answer := taken (.linkStatus clear) (handleLinkStatus clear) s

/-- UNKNOWN_COMMAND (R163): a request whose code names no command is answered with that status. A term whose code does
name one stands for no such request, and nothing occurs. -/
def execUnknownCommand (code : Byte) (payload : List Byte) (s : State) : Answer :=
  if knownCode code then .next s else taken (.unknownCommand code payload) (refuse .unknownCommand) s

/-- PAYLOAD_SIZE_WRONG (R163): a request with a known code and a wrong payload size is answered with BAD_LENGTH. -/
def execPayloadSizeWrong (code : Byte) (payload : List Byte) (s : State) : Answer :=
  if knownCode code && !payloadSizeRight code payload then
    taken (.payloadSizeWrong code payload) (refuse .badLength) s
  else .next s

/-! ### Bytes -/

/-- The receiver in LENGTH after a start byte (R158). -/
def Receiver.started : Receiver := { state := .length, held := [], expected := 0, gap := some 0 }

/-- The kind of a byte error: the first of parity, framing and overrun that the byte carries (R159). -/
def byteError (parity framing overrun : Bool) : Option DiscardKind :=
  if parity then some .parity
  else if framing then some .framing
  else if overrun then some .overrun
  else none

/-- The message being received is discarded with this kind, and the receiver hunts (R158, R159, R161). -/
def State.dropMessage (k : DiscardKind) (s : State) : State :=
  { s with link := { s.link with receiver := .reset } }.discardMessage k

/-- A byte without error arrives (R158). -/
def State.goodByte (b : Byte) (s : State) : State :=
  let r := s.link.receiver
  match r.state with
  | .hunting => if b = 0xA5#8 then { s with link := { s.link with receiver := .started } } else s
  | .length =>
      if 2 ≤ b.toNat ∧ b.toNat ≤ 202 then
        { s with link := { s.link with
            receiver := { state := .body, held := [b], expected := b.toNat, gap := some 0 } } }
      else s.dropMessage .length
  | .body =>
      let state := if r.expected ≤ 1 then .check else .body
      { s with link := { s.link with
          receiver := { state := state, held := r.held ++ [b], expected := r.expected - 1, gap := some 0 } } }
  | .check => { s with link := { s.link with receiver := .reset, completed := some (r.held ++ [b]) } }

/-- A byte with an error arrives (R159): passed over in HUNTING, and otherwise the message is discarded. -/
def State.badByte (k : DiscardKind) (s : State) : State :=
  match s.link.receiver.state with
  | .hunting => s
  | .length => s.dropMessage k
  | .body => s.dropMessage k
  | .check => s.dropMessage k

/-- LINK_BYTE_ARRIVAL (R158, R159). -/
def execLinkByteArrival (byte : Byte) (parity framing overrun : Bool) (s : State) : Answer :=
  event (fun s =>
    match byteError parity framing overrun with
    | some k => s.badByte k
    | none => s.goodByte byte) s

/-- MESSAGE_COMPLETE (R160), due once a check byte has arrived. -/
def execMessageComplete (s : State) : Answer :=
  followOn (fun s => s.link.completed.isSome)
    (fun s =>
      match s.link.completed with
      | some m => s.completeMessage m
      | none => s) s

/-- INTER_BYTE_TIMEOUT (R162), due at a gap count of 21. -/
def execInterByteTimeout (s : State) : Answer := followOn State.timeoutDue State.timeOut s

/-! ### Sending, resets and start-up -/

/-- The reply to RESTART: its code with status OK alone (R168). -/
def restartReply : OutMessage := .reply 0x02#8 [Status.ok.code]

/-- The last byte of the head message is sent and it leaves the queue (R165). At the end of READY start-up has ended
(R167); at the end of the RESTART reply the COMMAND reset takes effect, and start-up follows at once (R168). -/
def State.messageSent (strap : Bool) (s : State) : State :=
  match s.link.outgoing with
  | [] => s
  | head :: rest =>
    if s.link.phase = .restarting ∧ head = restartReply then (s.resetBy .command).startUpAfter .command strap
    else
      { s with link := { s.link with
          outgoing := rest
          phase := if s.link.phase = .startUp ∧ head.isReady then .operating else s.link.phase } }

/-- MESSAGE_SENT (R165). -/
def execMessageSent (strap : Bool) (s : State) : Answer := event (State.messageSent strap) s

/-- POWER_ON (R166): a POWER reset takes effect. -/
def execPowerOn (s : State) : Answer := .next (s.resetBy .power)

/-- RESET_INPUT_ASSERTED (R166): a LINE reset takes effect, in every phase. -/
def execResetInputAsserted (s : State) : Answer := .next (s.resetBy .line)

/-- START_UP (R167): it follows a reset in effect. -/
def execStartUp (strap : Bool) (s : State) : Answer :=
  match s.link.phase with
  | .inReset kind => .next (s.startUpAfter kind strap).finish
  | .startUp => .next s
  | .operating => .next s
  | .restarting => .next s

end Sys2Proof.Machine
end

