-- ==== Sys2Proof/Machine/Reports.lean ====
section
/-! DEFINITION. The attention unit's and the fault log's commands: ATTENTION READ (R148), ACK (R149), ATTENTION MASK
(R144), LOG READ (R152), LOG CLEAR (R153), and the event MILLISECOND_STEP (R155, R56, R162). -/

namespace Sys2Proof.Machine

/-- ATTENTION READ (R148). -/
def handleAttentionRead : Handler := fun s =>
  okWith (s.attention.report.bytes ++ [boolByte s.attentionLine, boolByte s.attention.noticeWaiting]) s

/-- ATTENTION READ taken. -/
def execAttentionRead (s : State) : Answer := taken .attentionRead handleAttentionRead s

/-- ACK (R149). The reply carries the attention set after the clearing (its bytes: log 14, DEDUCED). -/
def handleAck (sources : Value) : Handler := fun s =>
  match sourceSet? sources with
  | some named =>
      okWith (s.attention.clear named).report.setBytes { s with attention := s.attention.clear named }
  | none => refuse .range s

/-- ACK taken. -/
def execAck (sources : Value) (s : State) : Answer := taken (.ack sources) (handleAck sources) s

/-- ATTENTION MASK (R144). -/
def handleAttentionMask (sources : Value) : Handler := fun s =>
  match sourceSet? sources with
  | some mask => okWith (sourceSetBytes mask) { s with attention := s.attention.setMask mask }
  | none => refuse .range s

/-- ATTENTION MASK taken. -/
def execAttentionMask (sources : Value) (s : State) : Answer :=
  taken (.attentionMask sources) (handleAttentionMask sources) s

/-- LOG READ (R152): the oldest records leave the log, up to `n` of them. -/
def handleLogRead (n : Byte) : Handler := fun s =>
  if 1 ≤ n.toNat ∧ n.toNat ≤ 8 then
    let records := s.log.records.take n.toNat
    let left := s.log.records.drop n.toNat
    okWith ([natByte records.length] ++ records.flatMap LogRecord.bytes ++ [natByte left.length] ++
        bytes2 s.log.next ++ bytes4 s.uptime)
      { s with log := { s.log with records := left } }
  else refuse .range s

/-- LOG READ taken. -/
def execLogRead (n : Byte) (s : State) : Answer := taken (.logRead n) (handleLogRead n) s

/-- LOG CLEAR (R153): the sequence counter is left as it was. -/
def handleLogClear : Handler := fun s =>
  okWith [natByte s.log.records.length] { s with log := { s.log with records := [] } }

/-- LOG CLEAR taken. -/
def execLogClear (s : State) : Answer := taken .logClear handleLogClear s

/-- A running grace timer decreases by 1; at 0 the expiry is due and it stays (R56). -/
def graceStep : Option (BitVec 16) → Option (BitVec 16)
  | some n => some (if n = 0#16 then 0#16 else n - 1#16)
  | none => none

/-- One step of the uptime timer (R155): the count, 4294967295 followed by 0; every running grace timer (R56); the
link's gap count, which is present in LENGTH, BODY and CHECK (R162). -/
def State.millisecond (s : State) : State :=
  { s with
    uptime := s.uptime + 1#32
    groups := Vector.ofFn fun g => { s.group g with graceTimer := graceStep (s.group g).graceTimer }
    link := { s.link with receiver := { s.link.receiver with gap := s.link.receiver.gap.map (· + 1) } } }

/-- MILLISECOND_STEP (R155). -/
def execMillisecondStep (s : State) : Answer := event State.millisecond s

end Sys2Proof.Machine
end

