-- ==== Sys2Proof/Machine/Staging.lean ====
section
/-! DEFINITION. The connection map and the change list: MAP READ (R100, R101), the five staging commands (R104 to R109),
UNSTAGE (R110), DISCARD (R111), COMMIT (R115, R116), BATCH STATUS (R122), LIST READ (R123). -/

namespace Sys2Proof.Machine

/-! ### MAP READ -/

/-- A MAP READ entry in the ACTIVE view (R101, R172). -/
def State.activeRecord (s : State) (d : FullSlot) : List Byte :=
  let e := s.entry d
  [natByte d.slot.val, e.modeByte] ++ e.sourceBytes ++ e.forceBytes ++ optValue (s.trunk d.trunk).tx.lastSent[d.slot]

/-- A MAP READ entry in the PROJECTED view (R101, R172). -/
def State.projectedRecord (s : State) (d : FullSlot) : List Byte :=
  let p := s.projectedLayer d
  [natByte d.slot.val, p.1.modeByte] ++ p.1.sourceBytes ++ p.1.forceBytes ++ [p.2.byte]

/-- One entry in a view (R101). -/
def State.viewRecord (s : State) (view : View) (d : FullSlot) : List Byte :=
  match view with
  | .active => s.activeRecord d
  | .projected => s.projectedRecord d

/-- The slots a MAP READ reports: `count` slots from `first`, stopping at the last slot of a frame of length `length`
(R100). -/
def readRange (length first count : Nat) : List SlotId := (frameRange first count).filter (·.val < length)
where
  /-- The slot numbers from `first` on, `count` of them, below 40. -/
  frameRange (first count : Nat) : List SlotId :=
    (List.finRange 40).filter fun d => first ≤ d.val && d.val < first + count

/-- MAP READ (R100, R101). -/
def handleMapRead (view trunk first count : Byte) : Handler := fun s =>
  match view? view, resolveTrunk s.link.contextDestination trunk with
  | some v, some t =>
      if 1 ≤ count.toNat ∧ count.toNat ≤ 20 ∧ first.toNat < (s.trunk t).format.length then
        let slots := readRange (s.trunk t).format.length first.toNat count.toNat
        okWith ([trunkByte t, natByte slots.length] ++ slots.flatMap fun d => s.viewRecord v ⟨t, d⟩) s
      else refuse .range s
  | _, _ => refuse .range s

/-- MAP READ taken. -/
def execMapRead (view trunk first count : Byte) (s : State) : Answer :=
  taken (.mapRead view trunk first count) (handleMapRead view trunk first count) s

/-! ### Staging -/

/-- Place a staged entry (R103, R104): it replaces the destination's staged entry in its place, or is appended when the
list has room. The reply gives the destination, the place, and appended (0) or replaced (1). -/
def stageEntry (d : FullSlot) (e : MapEntry) : Handler := fun s =>
  let c : Change := { destination := d, entry := e, batch := none }
  match s.changes.findIdx? (Change.stagedFor d) with
  | some i => okWith (d.bytes ++ [natByte i, 1#8]) { s with changes := s.changes.set i c }
  | none =>
    if s.changes.length < Config.changeListCapacity then
      okWith (d.bytes ++ [natByte s.changes.length, 0#8]) { s with changes := s.changes ++ [c] }
    else refuse .listFull s

/-- STAGE LINK (R104, R105): the fan-out check of R95 is made unless the projected entry is already this link. -/
def handleStageLink (destination source : SlotRef) : Handler := fun s =>
  match resolveDestination s destination, resolveSource s source with
  | some d, some src =>
      if s.projected d ≠ .link src ∧ Config.fanoutLimit < s.fanout src + 1 then refuse .fanout s
      else stageEntry d (.link src) s
  | _, _ => refuse .range s

/-- STAGE LINK taken. -/
def execStageLink (destination source : SlotRef) (s : State) : Answer :=
  taken (.stageLink destination source) (handleStageLink destination source) s

/-- STAGE OPEN (R106). -/
def handleStageOpen (destination : SlotRef) : Handler := fun s =>
  match resolveDestination s destination with
  | some d => stageEntry d .opened s
  | none => refuse .range s

/-- STAGE OPEN taken. -/
def execStageOpen (destination : SlotRef) (s : State) : Answer :=
  taken (.stageOpen destination) (handleStageOpen destination) s

/-- STAGE FORCE (R107): the value is checked against the width of the destination's trunk and held as given. -/
def handleStageForce (destination : SlotRef) (value : Value) : Handler := fun s =>
  match resolveDestination s destination with
  | some d =>
      if (s.trunk d.trunk).format.width.holds value then stageEntry d (.force value) s else refuse .range s
  | none => refuse .range s

/-- STAGE FORCE taken. -/
def execStageForce (destination : SlotRef) (value : Value) (s : State) : Answer :=
  taken (.stageForce destination value) (handleStageForce destination value) s

/-- STAGE HOLD (R106). -/
def handleStageHold (destination : SlotRef) : Handler := fun s =>
  match resolveDestination s destination with
  | some d => stageEntry d .hold s
  | none => refuse .range s

/-- STAGE HOLD taken. -/
def execStageHold (destination : SlotRef) (s : State) : Answer :=
  taken (.stageHold destination) (handleStageHold destination) s

/-- STAGE PLAY (R98, R108). -/
def handleStagePlay (destination : SlotRef) : Handler := fun s =>
  match resolveDestination s destination with
  | some d => if s.playElsewhere d then refuse .playTaken s else stageEntry d .play s
  | none => refuse .range s

/-- STAGE PLAY taken. -/
def execStagePlay (destination : SlotRef) (s : State) : Answer :=
  taken (.stagePlay destination) (handleStagePlay destination) s

/-! ### Withdrawing -/

/-- The state with the staged entry of `d` gone; the entries after it move one place toward the front (R103). -/
def State.withdraw (d : FullSlot) (s : State) : State :=
  { s with changes := s.changes.eraseP (Change.stagedFor d) }

/-- The fan-out check of UNSTAGE (R96): the entry beneath the staged one is a link that the staged entry is not, and its
source would have more than twelve links in the projected map. -/
def State.unstageExceeds (d : FullSlot) (s : State) : Bool :=
  match (s.withdraw d).projected d with
  | .link source => s.projected d != .link source && decide (Config.fanoutLimit < (s.withdraw d).fanout source)
  | .opened => false
  | .force _ => false
  | .hold => false
  | .play => false

/-- UNSTAGE (R110). -/
def handleUnstage (destination : SlotRef) : Handler := fun s =>
  match resolveDestination s destination with
  | none => refuse .range s
  | some d =>
      if s.changes.any (Change.stagedFor d) = false then refuse .notStaged s
      else if s.unstageExceeds d then refuse .fanout s
      else okWith [natByte (s.withdraw d).stagedCount] (s.withdraw d)

/-- UNSTAGE taken. -/
def execUnstage (destination : SlotRef) (s : State) : Answer := taken (.unstage destination) (handleUnstage destination) s

/-- DISCARD (R111). -/
def handleDiscard : Handler := fun s =>
  okWith [natByte s.stagedCount] { s with changes := s.changes.filter (·.batch.isSome) }

/-- DISCARD taken. -/
def execDiscard (s : State) : Answer := taken .discard handleDiscard s

/-! ### COMMIT and the reports -/

/-- The batch id after `id`: 255 is followed by 1 (R115). -/
def nextBatchId (id : Byte) : Byte := if id = 255#8 then 1#8 else id + 1#8

/-- Every staged entry goes in flight as one batch (R115). -/
def State.putInFlight (s : State) : State :=
  { s with
    changes := s.changes.map fun c => if c.batch.isNone then { c with batch := some s.nextBatch } else c
    batch := some { id := s.nextBatch, count := s.stagedCount, remaining := s.stagedCount }
    nextBatch := nextBatchId s.nextBatch }

/-- Whether the transmit section of a trunk is HELD. -/
def State.txHeld (s : State) (t : TrunkId) : Bool := (s.trunk t).tx.state == .held

/-- COMMIT (R115, R116): the entries whose destination trunk is HELD are applied at once. -/
def handleCommit : Handler := fun s =>
  if s.batch.isSome then refuse .inFlight s
  else if s.stagedCount = 0 then refuse .nothingStaged s
  else
    let s' := s.putInFlight
    okWith [s.nextBatch, natByte s.stagedCount, natByte (s'.inFlightOn s'.txHeld).length] (s'.applyInFlight s'.txHeld)

/-- COMMIT taken. -/
def execCommit (s : State) : Answer := taken .commit handleCommit s

/-- The items of BATCH STATUS (R122). The last batch record is one item with one mark byte (log 13, DEDUCED). -/
def State.batchBytes (s : State) : List Byte :=
  [boolByte s.batch.isSome] ++ optByte (s.batch.map (·.id)) ++ optByte (s.batch.map fun b => natByte b.count) ++
    optByte (s.batch.map fun b => natByte b.remaining) ++
    (match s.lastBatch with
      | some r => [0#8, r.id, natByte r.applied]
      | none => [1#8, 0#8, 0#8]) ++
    [natByte s.stagedCount, natByte s.changes.length, s.nextBatch]

/-- BATCH STATUS (R122). -/
def handleBatchStatus : Handler := fun s => okWith s.batchBytes s

/-- BATCH STATUS taken. -/
def execBatchStatus (s : State) : Answer := taken .batchStatus handleBatchStatus s

/-- A LIST READ entry at a place of the list (R123, R172). -/
def Change.bytes (place : Nat) (c : Change) : List Byte :=
  [natByte place] ++ c.destination.bytes ++ [c.entry.modeByte] ++ c.entry.sourceBytes ++ c.entry.forceBytes ++
    (match c.batch with
      | some id => [Layer.inFlight.byte, id]
      | none => [Layer.staged.byte, 0#8])

/-- The records of consecutive entries, the first at `place`. -/
def listRecords (place : Nat) : List Change → List Byte
  | [] => []
  | c :: cs => c.bytes place ++ listRecords (place + 1) cs

/-- LIST READ (R123). -/
def handleListRead (first count : Byte) : Handler := fun s =>
  if first.toNat ≤ 63 ∧ 1 ≤ count.toNat ∧ count.toNat ≤ 16 then
    let cs := (s.changes.drop first.toNat).take count.toNat
    okWith ([natByte s.changes.length, natByte cs.length] ++ listRecords first.toNat cs) s
  else refuse .range s

/-- LIST READ taken. -/
def execListRead (first count : Byte) (s : State) : Answer := taken (.listRead first count) (handleListRead first count) s

end Sys2Proof.Machine
end

