-- ==== Sys2Proof/Machine/Streams.lean ====
section
/-! DEFINITION. The capture tap and the playout queue: TAP START (R127), TAP STOP (R132), TAP READ (R133), PLAY LOAD
(R136, R139), PLAY FLUSH (R137), PLAY STATUS (R140), and the event TAP_RUN_END (R130). -/

namespace Sys2Proof.Machine

/-- The capture queue empty and a run ACTIVE on a source, for `count` frames or CONTINUOUS when `count` is 0 (R127). -/
def Tap.started (source : FullSlot) (count : Value) : Tap :=
  { active := true
    source := some source
    remaining := if count = 0#16 then .continuous else .frames count
    queue := []
    overflow := 0#8
    dropLogged := false }

/-- TAP START (R127). -/
def handleTapStart (source : SlotRef) (count : Value) : Handler := fun s =>
  match resolveSource s source with
  | none => refuse .range s
  | some src => if s.tap.active then refuse .tapBusy s else okWith src.bytes { s with tap := .started src count }

/-- TAP START taken. -/
def execTapStart (source : SlotRef) (count : Value) (s : State) : Answer :=
  taken (.tapStart source count) (handleTapStart source count) s

/-- TAP STOP (R132). The remaining count is left as it stood at the stop (DESIGN CHOICE, log 27). -/
def handleTapStop : Handler := fun s =>
  if s.tap.active then
    okWith (s.tap.remaining.bytes ++ [natByte s.tap.queue.length]) { s with tap := { s.tap with active := false } }
  else refuse .state s

/-- TAP STOP taken. -/
def execTapStop (s : State) : Answer := taken .tapStop handleTapStop s

/-- TAP READ (R133): the oldest values leave the queue, up to `n` of them. -/
def handleTapRead (n : Byte) : Handler := fun s =>
  if 1 ≤ n.toNat ∧ n.toNat ≤ 16 then
    let values := s.tap.queue.take n.toNat
    let left := s.tap.queue.drop n.toNat
    okWith ([boolByte s.tap.active] ++ optSlot s.tap.source ++ s.tap.remaining.bytes ++
        [s.tap.overflow, natByte values.length] ++ valueBytes values ++ [natByte left.length])
      { s with tap := { s.tap with queue := left } }
  else refuse .range s

/-- TAP READ taken. -/
def execTapRead (n : Byte) (s : State) : Answer := taken (.tapRead n) (handleTapRead n) s

/-- TAP_RUN_END (R130). -/
def execTapRunEnd (s : State) : Answer := followOn State.tapEndDue State.endTapRun s

/-- PLAY LOAD (R136): values are appended until the queue holds 64; an accepted value closes the episode (R139). -/
def handlePlayLoad (values : List Value) : Handler := fun s =>
  if 1 ≤ values.length ∧ values.length ≤ 32 then
    let accepted := values.take (Config.queueCapacity - s.playout.queue.length)
    let queue := s.playout.queue ++ accepted
    (⟨if accepted.length = values.length then .ok else .partly, [natByte accepted.length, natByte queue.length]⟩,
      { s with playout := { s.playout with
          queue := queue
          episode := if accepted.isEmpty then s.playout.episode else false } })
  else refuse .range s

/-- PLAY LOAD taken. -/
def execPlayLoad (values : List Value) (s : State) : Answer := taken (.playLoad values) (handlePlayLoad values) s

/-- PLAY FLUSH (R137). -/
def handlePlayFlush : Handler := fun s =>
  okWith [natByte s.playout.queue.length] { s with playout := { s.playout with queue := [] } }

/-- PLAY FLUSH taken. -/
def execPlayFlush (s : State) : Answer := taken .playFlush handlePlayFlush s

/-- The destination whose active map entry is PLAY, if any (R99). -/
def State.playActive (s : State) : Option FullSlot := allSlots.find? fun d => s.entry d == .play

/-- The destination whose projected map entry is PLAY, if any (R99). -/
def State.playProjected (s : State) : Option FullSlot := allSlots.find? fun d => s.projected d == .play

/-- The items of PLAY STATUS (R140). -/
def State.playBytes (s : State) : List Byte :=
  [natByte s.playout.queue.length] ++ bytes2 s.playout.underruns ++ [boolByte s.playout.episode] ++
    optSlot s.playActive ++ optSlot s.playProjected

/-- PLAY STATUS (R140): the report, then the underrun count cleared when asked. -/
def handlePlayStatus (clear : Byte) : Handler := fun s =>
  match yesNo? clear with
  | some c =>
      okWith s.playBytes (if c then { s with playout := { s.playout with underruns := 0#16 } } else s)
  | none => refuse .range s

/-- PLAY STATUS taken. -/
def execPlayStatus (clear : Byte) (s : State) : Answer := taken (.playStatus clear) (handlePlayStatus clear) s

end Sys2Proof.Machine
end

