-- ==== Sys2Proof/Machine/Trunks.lean ====
section
/-! DEFINITION. The trunks: FORMAT (R13 to R16), the run and hold commands (R18, R24, R27, R29), SET MASK (R33), TRUNK
STATUS (R37), and the events of the receive and transmit sections (R19 to R22, R28), with the capture that a receive
frame end makes (R128 to R130). -/

namespace Sys2Proof.Machine

/-! ### FORMAT -/

/-- A set of slots brought from frame length `old` to `new` (R14): slots at or above the new length are removed and
slots from the old to the new length are added. -/
def resizeSet (old new : Nat) (m : SlotSet) : SlotSet :=
  (m &&& slotsBelow new) ||| (slotsBelow new &&& ~~~slotsBelow old)

/-- Both sets of a mask brought to a new frame length (R14). -/
def Mask.resize (old new : Nat) (m : Mask) : Mask :=
  { active := resizeSet old new m.active, pending := resizeSet old new m.pending }

/-- An active map entry at a FORMAT of trunk `t` from width `old` to width `new` and frame length `length`: OPEN when it
names a slot that no longer exists (R15), a FORCE value of the trunk converted (R16; equal widths change nothing). -/
def reformatEntry (t : TrunkId) (length : Nat) (old new : Width) (d : FullSlot) (e : MapEntry) : MapEntry :=
  if d.trunk = t ∧ length ≤ d.slot.val then .opened
  else
    match e with
    | .link source => if source.trunk = t ∧ length ≤ source.slot.val then .opened else .link source
    | .force v => if d.trunk = t then .force (convert old new v) else .force v
    | .opened => .opened
    | .hold => .hold
    | .play => .play

/-- Whether a change entry has its destination or its source on trunk `t` (R13). -/
def Change.names (t : TrunkId) (c : Change) : Bool :=
  c.destination.trunk == t ||
    match c.entry with
    | .link source => source.trunk == t
    | .opened => false
    | .force _ => false
    | .hold => false
    | .play => false

/-- Whether the tap is ACTIVE with its tapped source on trunk `t` (R13). -/
def State.tapOn (t : TrunkId) (s : State) : Bool := s.tap.active && s.tap.source.any (·.trunk == t)

/-- The effects of a FORMAT that is taken (R14, R15, R16). -/
def State.reformat (t : TrunkId) (f : Format) (s : State) : State :=
  let old := (s.trunk t).format
  (s.mapEntries (reformatEntry t f.length old.width f.width)).modifyTrunk t fun k =>
    { k with
      format := f
      rxMask := k.rxMask.resize old.length f.length
      txMask := k.txMask.resize old.length f.length }

/-- FORMAT (R13): the four checks in order, then the effects. -/
def handleFormat (trunk length width : Byte) (idle : Value) (keepForced : Byte) : Handler := fun s =>
  match trunk? trunk, width? width, yesNo? keepForced with
  | some t, some w, some keep =>
      if ¬(2 ≤ length.toNat ∧ length.toNat ≤ 40 ∧ w.holds idle) then refuse .range s
      else if ¬((s.trunk t).rx.state = .held ∧ (s.trunk t).tx.state = .held) then refuse .sectionRunning s
      else if s.changes.any (Change.names t) then refuse .referencesPending s
      else if s.tapOn t then refuse .tapBusy s
      else okWith [] (s.reformat t { length := length.toNat, width := w, idle := idle, keepForced := keep })
  | _, _, _ => refuse .range s

/-- FORMAT taken. -/
def execFormat (trunk length width : Byte) (idle : Value) (keepForced : Byte) (s : State) : Answer :=
  taken (.format trunk length width idle keepForced) (handleFormat trunk length width idle keepForced) s

/-! ### Run and hold -/

/-- RX RUN (R18). -/
def handleRxRun (trunk : Byte) : Handler := fun s =>
  match trunk? trunk with
  | some t =>
      if (s.trunk t).rx.state = .held then
        okWith [] (s.modifyTrunk t fun k =>
          { k with rx := { k.rx with state := .hunt, candidate := none, missCount := 0 } })
      else refuse .state s
  | none => refuse .range s

/-- RX RUN taken. -/
def execRxRun (trunk : Byte) (s : State) : Answer := taken (.rxRun trunk) (handleRxRun trunk) s

/-- The receive section stops at once (R24): HELD, the store invalidated, the pending mask active. -/
def State.holdReceive (t : TrunkId) (s : State) : State :=
  (s.modifyTrunk t fun k =>
    { k with
      rx := { k.rx with state := .held, candidate := none, missCount := 0 }
      rxMask := k.rxMask.activate }).invalidate t

/-- RX HOLD (R24), at `time`: a hold of an ALIGNED section is reported to the group as "leaves ALIGNED" (R53). -/
def handleRxHold (time : Time) (trunk : Byte) : Handler := fun s =>
  match trunk? trunk with
  | some t =>
      let s := (s.settleFollower t).advance time
      if (s.trunk t).rx.state = .aligned then okWith [] ((s.holdReceive t).leavesAligned t s.now)
      else okWith [] (s.holdReceive t)
  | none => refuse .range s

/-- RX HOLD taken. -/
def execRxHold (time : Time) (trunk : Byte) (s : State) : Answer := taken (.rxHold time trunk) (handleRxHold time trunk) s

/-- TX RUN (R27), at `time`: a STOPPED group starts (R45). -/
def handleTxRun (time : Time) (trunk : Byte) : Handler := fun s =>
  match trunk? trunk with
  | some t =>
      if (s.trunk t).tx.state = .held then
        let g := (s.trunk t).group
        let s := (s.advance time).modifyTrunk t fun k => { k with tx := { Transmit.reset with state := .run } }
        okWith [] (if (s.group g).state = .stopped then s.startGroup g s.now else s)
      else refuse .state s
  | none => refuse .range s

/-- TX RUN taken. -/
def execTxRun (time : Time) (trunk : Byte) (s : State) : Answer := taken (.txRun time trunk) (handleTxRun time trunk) s

/-- TX HOLD (R29, R30). -/
def handleTxHold (trunk : Byte) : Handler := fun s =>
  match trunk? trunk with
  | some t => okWith [] ((s.settleStopped t).holdTransmit t)
  | none => refuse .range s

/-- TX HOLD taken. -/
def execTxHold (trunk : Byte) (s : State) : Answer := taken (.txHold trunk) (handleTxHold trunk) s

/-! ### Masks and status -/

/-- Write the pending set of a mask; `now` says whether it becomes active as part of the command (R33). -/
def Mask.write (slots : SlotSet) (now : Bool) (m : Mask) : Mask :=
  { active := if now then slots else m.active, pending := slots }

/-- SET MASK (R33). -/
def handleSetMask (trunk direction : Byte) (slots : SlotSet) : Handler := fun s =>
  match trunk? trunk, direction? direction with
  | some t, some dir =>
      if slots &&& ~~~slotsBelow (s.trunk t).format.length = 0#40 then
        okWith [] (s.modifyTrunk t fun k =>
          match dir with
          | .receive => { k with rxMask := k.rxMask.write slots (k.rx.state != .aligned) }
          | .transmit => { k with txMask := k.txMask.write slots (k.tx.state != .run) })
      else refuse .range s
  | _, _ => refuse .range s

/-- SET MASK taken. -/
def execSetMask (trunk direction : Byte) (slots : SlotSet) (s : State) : Answer :=
  taken (.setMask trunk direction slots) (handleSetMask trunk direction slots) s

/-- The format record in a reply (R37, R172). -/
def Format.bytes (f : Format) : List Byte :=
  [natByte f.length, f.width.byte] ++ bytes2 f.idle ++ [boolByte f.keepForced]

/-- The items of TRUNK STATUS (R37). -/
def Trunk.statusBytes (k : Trunk) : List Byte :=
  k.format.bytes ++ [groupByte k.group, k.rx.state.byte, natByte k.rx.missCount] ++ bytes2 k.rx.lossCount ++
    [natByte k.store.frames.length, k.tx.state.byte, boolByte k.tx.firstSent] ++
    slotSetBytes k.rxMask.pending ++ slotSetBytes k.txMask.pending

/-- TRUNK STATUS (R37): the report, then the loss count cleared when asked (R36). -/
def handleTrunkStatus (trunk clear : Byte) : Handler := fun s =>
  match trunk? trunk, yesNo? clear with
  | some t, some c =>
      okWith (s.trunk t).statusBytes
        (if c then s.modifyTrunk t fun k => { k with rx := { k.rx with lossCount := 0#16 } } else s)
  | _, _ => refuse .range s

/-- TRUNK STATUS taken. -/
def execTrunkStatus (trunk clear : Byte) (s : State) : Answer :=
  taken (.trunkStatus trunk clear) (handleTrunkStatus trunk clear) s

/-! ### Receive events -/

/-- A marker on the receive line (R19). In HELD the section ignores its line, and in ALIGNED a marker away from an
expected frame end is ignored (R20). -/
def State.seeMarker (t : TrunkId) (position : Nat) (s : State) : State :=
  match (s.trunk t).rx.state with
  | .hunt =>
    let align := (s.trunk t).rx.candidate.any fun c => position == c + (s.trunk t).format.bits
    if align then
      (s.modifyTrunk t fun k =>
        { k with
          rx := { k.rx with state := .aligned, candidate := none, missCount := 0 }
          store := { k.store with filling := some [] } }).becomesAligned t
    else s.modifyTrunk t fun k => { k with rx := { k.rx with candidate := some position } }
  | .held => s
  | .aligned => s

/-- HUNT_MARKER (R19). -/
def execHuntMarker (trunk : TrunkId) (position : Nat) (s : State) : Answer := event (State.seeMarker trunk position) s

/-- The values of a completed frame (R22): the value received in the slots of the active receive mask, the idle value
in the others. -/
def Trunk.frameValues (k : Trunk) (line : LineBits) : List Value :=
  (frameSlots k.format.length).map fun d =>
    if inSet k.rxMask.active d then receivedValue k.format.width line d else k.format.idle

/-- A frame completes into the store (R67): it takes the next sequence number, and of three frames the oldest leaves. -/
def FrameStore.push (values : List Value) (store : FrameStore) : FrameStore :=
  { filling := some []
    frames := (if store.frames.length < Config.storeCapacity then store.frames else store.frames.drop 1) ++
      [{ seq := store.next, values := values }]
    next := store.next + 1#16 }

/-- The remaining count after a capture (R130). -/
def Remaining.countDown : Remaining → Remaining
  | .continuous => .continuous
  | .frames n => .frames (if n = 0#16 then 0#16 else n - 1#16)

/-- A captured value joins the capture queue, or is dropped when the queue is full (R128, R129). -/
def State.keepCapture (t : TrunkId) (v : Value) (s : State) : State :=
  if s.tap.queue.length < Config.queueCapacity then { s with tap := { s.tap with queue := s.tap.queue ++ [v] } }
  else
    let s' := { s with tap := { s.tap with overflow := satAdd s.tap.overflow 1, dropLogged := true } }.raise .tapOverflow
    if s.tap.dropLogged then s' else s'.writeRecord (.tapOverflow t)

/-- The capture at a receive frame end of trunk `t` (R128), and the remaining count (R130). -/
def State.capture (t : TrunkId) (values : List Value) (s : State) : State :=
  match s.tap.source with
  | some source =>
    if s.tap.active && source.trunk == t then
      match values[source.slot.val]? with
      | some v =>
        let s' := s.keepCapture t (convert (s.trunk t).format.width .w16 v)
        { s' with tap := { s'.tap with remaining := s'.tap.remaining.countDown } }
      | none => s
    else s
  | none => s

/-- A boundary becomes due when a frame end of the followed reference causes one (R47). -/
def State.causeBoundary (t : TrunkId) (s : State) : State :=
  if (s.group (s.trunk t).group).follows t then
    s.modifyGroup (s.trunk t).group fun u => { u with due := some { time := s.now, cause := some t } }
  else s

/-- A receive frame end of trunk `t` (R20, R22): the frame completes, the miss count is set, the pending receive mask
becomes active (R34), the tap captures, and a followed reference causes a boundary. -/
def State.completeFrame (t : TrunkId) (marker : Bool) (line : LineBits) (s : State) : State :=
  let values := (s.trunk t).frameValues line
  let s' := s.modifyTrunk t fun k =>
    { k with
      rx := { k.rx with missCount := if marker then 0 else k.rx.missCount + 1 }
      rxMask := k.rxMask.activate
      store := k.store.push values }
  (s'.capture t values).causeBoundary t

/-- Whether an expected frame end completes its frame (R20): with the marker, or with fewer than two misses before. -/
def Receive.completes (marker : Bool) (r : Receive) : Bool := r.state == .aligned && (marker || decide (r.missCount < 2))

/-- RECEIVE_FRAME_END (R22). -/
def execReceiveFrameEnd (trunk : TrunkId) (time : Time) (marker : Bool) (line : LineBits) (s : State) : Answer :=
  event (fun s =>
    if (s.trunk trunk).rx.completes marker then
      ((s.settleFollower trunk).advance time).completeFrame trunk marker line
    else s) s

/-- Whether an expected frame end without a marker is a loss of alignment (R20, R21). -/
def Receive.losesAlignment (r : Receive) : Bool := r.state == .aligned && decide (2 ≤ r.missCount)

/-- The receive section's part of a loss (R21): HUNT, the store invalidated, the loss counted, the pending mask active,
RX_LOSS raised. -/
def State.loseAlignment (t : TrunkId) (s : State) : State :=
  ((s.modifyTrunk t fun k =>
    { k with
      rx := { state := .hunt, candidate := none, missCount := 0, lossCount := satAdd k.rx.lossCount 1 }
      rxMask := k.rxMask.activate }).invalidate t).raise (.rxLoss t)

/-- The two reports of a loss, the RX_LOSS record and "leaves ALIGNED", which may write a HOLDOVER record; their order
is open (R150) and is the free value's (log 7). -/
def State.reportLoss (t : TrunkId) (s : State) : State :=
  let next := { s with choices := s.choices + 1 }
  if Config.holdoverRecordFirst s.choices then (next.leavesAligned t s.now).writeRecord (.rxLoss t)
  else (next.writeRecord (.rxLoss t)).leavesAligned t s.now

/-- LOSS_OF_ALIGNMENT (R21). -/
def execLossOfAlignment (trunk : TrunkId) (time : Time) (s : State) : Answer :=
  event (fun s =>
    if (s.trunk trunk).rx.losesAlignment then
      (((s.settleFollower trunk).advance time).loseAlignment trunk).reportLoss trunk
    else s) s

/-! ### Transmit frame start -/

/-- TRANSMIT_FRAME_START (R28): it occurs for a RUN section for which a boundary has caused a start (R31). -/
def execTransmitFrameStart (trunk : TrunkId) (s : State) : Answer :=
  event (fun s =>
    if (s.trunk trunk).tx.state = .run ∧ (s.trunk trunk).tx.startDue then s.transmitStart trunk else s) s

end Sys2Proof.Machine
end

