-- ==== Sys2Proof/Machine/Dispatch.lean ====
section
/-! DEFINITION. The dispatch of the commands: one arm per constructor, each one call of its meaning. -/

namespace Sys2Proof.Machine

def exec (i : Instr) (s : State) : Host.Outcome State Fault Refusal :=
  match i with
  | .setContext source destination => Sys2Proof.Machine.execSetContext source destination s
  | .getContext => Sys2Proof.Machine.execGetContext s
  | .format trunk length width idle keepForced => Sys2Proof.Machine.execFormat trunk length width idle keepForced s
  | .unknownCommand code payload => Sys2Proof.Machine.execUnknownCommand code payload s
  | .rxRun trunk => Sys2Proof.Machine.execRxRun trunk s
  | .rxHold time trunk => Sys2Proof.Machine.execRxHold time trunk s
  | .txRun time trunk => Sys2Proof.Machine.execTxRun time trunk s
  | .txHold trunk => Sys2Proof.Machine.execTxHold trunk s
  | .setMask trunk direction slots => Sys2Proof.Machine.execSetMask trunk direction slots s
  | .trunkStatus trunk clear => Sys2Proof.Machine.execTrunkStatus trunk clear s
  | .groupMove trunk group => Sys2Proof.Machine.execGroupMove trunk group s
  | .groupSet group primary standby grace policy rate longLimit => Sys2Proof.Machine.execGroupSet group primary standby grace policy rate longLimit s
  | .revert group => Sys2Proof.Machine.execRevert group s
  | .meterClear group => Sys2Proof.Machine.execMeterClear group s
  | .groupStatus group => Sys2Proof.Machine.execGroupStatus group s
  | .slipStatus group trunk => Sys2Proof.Machine.execSlipStatus group trunk s
  | .slipClear group target => Sys2Proof.Machine.execSlipClear group target s
  | .mapRead view trunk first count => Sys2Proof.Machine.execMapRead view trunk first count s
  | .stageLink destination source => Sys2Proof.Machine.execStageLink destination source s
  | .stageOpen destination => Sys2Proof.Machine.execStageOpen destination s
  | .stageForce destination value => Sys2Proof.Machine.execStageForce destination value s
  | .stageHold destination => Sys2Proof.Machine.execStageHold destination s
  | .stagePlay destination => Sys2Proof.Machine.execStagePlay destination s
  | .unstage destination => Sys2Proof.Machine.execUnstage destination s
  | .discard => Sys2Proof.Machine.execDiscard s
  | .commit => Sys2Proof.Machine.execCommit s
  | .batchStatus => Sys2Proof.Machine.execBatchStatus s
  | .listRead first count => Sys2Proof.Machine.execListRead first count s
  | .tapStart source count => Sys2Proof.Machine.execTapStart source count s
  | .tapStop => Sys2Proof.Machine.execTapStop s
  | .tapRead n => Sys2Proof.Machine.execTapRead n s
  | .playLoad values => Sys2Proof.Machine.execPlayLoad values s
  | .playFlush => Sys2Proof.Machine.execPlayFlush s
  | .playStatus clear => Sys2Proof.Machine.execPlayStatus clear s
  | .attentionRead => Sys2Proof.Machine.execAttentionRead s
  | .ack sources => Sys2Proof.Machine.execAck sources s
  | .attentionMask sources => Sys2Proof.Machine.execAttentionMask sources s
  | .logRead n => Sys2Proof.Machine.execLogRead n s
  | .logClear => Sys2Proof.Machine.execLogClear s
  | .identify => Sys2Proof.Machine.execIdentify s
  | .restart => Sys2Proof.Machine.execRestart s
  | .linkStatus clear => Sys2Proof.Machine.execLinkStatus clear s
  | .huntMarker trunk position => Sys2Proof.Machine.execHuntMarker trunk position s
  | .receiveFrameEnd trunk time marker line => Sys2Proof.Machine.execReceiveFrameEnd trunk time marker line s
  | .tapRunEnd => Sys2Proof.Machine.execTapRunEnd s
  | .lossOfAlignment trunk time => Sys2Proof.Machine.execLossOfAlignment trunk time s
  | .groupBoundary group => Sys2Proof.Machine.execGroupBoundary group s
  | .generatorBoundary group => Sys2Proof.Machine.execGeneratorBoundary group s
  | .transmitFrameStart trunk => Sys2Proof.Machine.execTransmitFrameStart trunk s
  | .millisecondStep => Sys2Proof.Machine.execMillisecondStep s
  | .graceExpiry group => Sys2Proof.Machine.execGraceExpiry group s
  | .interByteTimeout => Sys2Proof.Machine.execInterByteTimeout s
  | .linkByteArrival byte parity framing overrun => Sys2Proof.Machine.execLinkByteArrival byte parity framing overrun s
  | .messageComplete => Sys2Proof.Machine.execMessageComplete s
  | .messageSent strap => Sys2Proof.Machine.execMessageSent strap s
  | .powerOn => Sys2Proof.Machine.execPowerOn s
  | .resetInputAsserted => Sys2Proof.Machine.execResetInputAsserted s
  | .startUp strap => Sys2Proof.Machine.execStartUp strap s
  | .payloadSizeWrong code payload => Sys2Proof.Machine.execPayloadSizeWrong code payload s

end Sys2Proof.Machine
end

