-- ==== Sys2Proof/Machine/Serial.lean ====
section
/-! DEFINITION. The bytes of the control link as levels on its lines (R156): the eleven bit times of a byte, the levels of a
message being sent with the idle level between messages, the line rates, and the byte arrival that eleven received levels
stand for (R158, R159). A high level is `true`; which level is idle and which is a start or a stop bit is log 29. -/

namespace Sys2Proof.Machine

/-- A byte on the line: bit `n` is the level in bit time `n`, from the start bit to the stop bit (R156). -/
abbrev SerialFrame := BitVec 11

/-- The level at which a line rests, which is also that of a stop bit; a start bit has the other (PRESUMED, log 29). -/
def idleLevel : Bool := true

/-- The even-parity bit of a byte (R156). -/
def evenParity (b : Byte) : Bool := (List.range 8).foldl (fun p n => p ^^ b.getLsbD n) false

/-- A byte laid out: a start bit, eight data bits with the least significant first, the parity bit, a stop bit (R156). -/
def serialFrame (b : Byte) : SerialFrame :=
  BitVec.ofBool idleLevel ++ BitVec.ofBool (evenParity b) ++ b ++ BitVec.ofBool (!idleLevel)

/-- The levels of a byte, bit time by bit time. -/
def SerialFrame.levels (f : SerialFrame) : List Bool := (List.range 11).map f.getLsbD

/-- The levels of a message as it is sent: its bytes back to back, with no gap (R156). -/
def OutMessage.levels (m : OutMessage) : List Bool := m.bytes.flatMap fun b => (serialFrame b).levels

/-- The level of the transmit output in bit time `n` of the sending of the head of the outgoing queue: the message's level,
and the idle level after it and while there is no message (R156, R166). -/
def State.transmitLevel (s : State) (n : Nat) : Bool :=
  match s.link.outgoing with
  | [] => idleLevel
  | m :: _ => (m.levels[n]?).getD idleLevel

/-- The line rates in bit/s (R156). -/
def LineRate.bitsPerSecond : LineRate → Nat
  | .baud115200 => 115200
  | .baud921600 => 921600

/-- The byte arrival that eleven received levels stand for, with the receiver's overrun indication: none where there is no
start bit; a wrong parity bit is a parity error, and a wrong stop bit a framing error (R156, R158, R159). -/
def SerialFrame.arrival (f : SerialFrame) (overrun : Bool) : Option Instr :=
  if f.getLsbD 0 = idleLevel then none
  else
    let b := f.extractLsb' 1 8
    some (.linkByteArrival b (f.getLsbD 9 != evenParity b) (f.getLsbD 10 != idleLevel) overrun)

end Sys2Proof.Machine
end

