-- ==== Sys2Proof/WellFormed.lean ====
section
/-! DEFINITION. Which command terms a message of the link or an event can stand for, and a row as taken at a time. Operand codes out of
their values are well-formed: they are refused with RANGE by the owning command (R172). -/

namespace Sys2Proof

/-- The largest payload of a message (R171). -/
def maxPayload : Nat := 200

/-- A command term is well-formed when its request fits one message and it names its own case of R163:
an UNKNOWN_COMMAND has a code that names no command, a PAYLOAD_SIZE_WRONG a known code with a wrong size,
and a PLAY LOAD at most the 99 values that a payload of 200 bytes can carry. -/
def Instr.wellFormed : Instr → Bool
  | .unknownCommand code payload => !knownCode code && decide (payload.length ≤ maxPayload)
  | .payloadSizeWrong code payload =>
      knownCode code && !payloadSizeRight code payload && decide (payload.length ≤ maxPayload)
  | .playLoad values => decide (values.length ≤ 99)
  | _ => true

/-- A request row as it is taken at `time`: RX HOLD and TX RUN carry that time, the others none. -/
def Instr.takenAt (time : Time) : Instr → Instr
  | .rxHold _ trunk => .rxHold time trunk
  | .txRun _ trunk => .txRun time trunk
  | i => i

end Sys2Proof
end

