-- ==== Sys2Proof/Safety.lean ====
section
/-! DEFINITION. The terms in which claims speak: when a request is taken and what its reply leaves, when nothing is due,
and the laws the spec states of the part's own state. A safe run is one in which every law holds in every state; no step
of the model ends in a fault or a refusal. -/

namespace Sys2Proof.Machine

/-! ### When commands act -/

/-- Nothing is due that comes before any other command (`settle`), and no reset is in effect. -/
abbrev State.Settled (s : State) : Prop :=
  s.inReset = false ∧ s.tapEndDue = false ∧ s.link.completed = none ∧ s.timeoutDue = false

/-- Request `r` is taken at once (R160, R163): start-up has ended, the link is not restarting, the buffer holds this
request or none, and no reply waits whose sending has not begun. -/
abbrev State.Ready (r : Request) (s : State) : Prop :=
  s.Settled ∧ s.link.phase = .operating ∧ (s.link.requestBuffer = none ∨ s.link.requestBuffer = some r) ∧
    s.replyWaiting = false

/-- The reply with this code and payload has joined the outgoing queue, the request buffer is empty, and the event has
ended (R163, R165). -/
def State.replied (code : Byte) (payload : List Byte) (s : State) : State :=
  ({ s with link := { s.link with
      requestBuffer := none
      outgoing := s.link.outgoing ++ [OutMessage.reply code payload] } }).finish

/-- The state with request `r` in the request buffer, as it is taken (R163). -/
def State.buffered (r : Request) (s : State) : State := { s with link := { s.link with requestBuffer := some r } }

/-- What every item but the fault log, the model's clock, its choice counter and the queue holds once a reset of this
kind has taken effect, spelled out (R5, R12, R17, R26, R32, R40, R42, R44, R66, R69, R73, R74, R82, R102, R126, R135, R142,
R155, R161, R166). -/
abbrev State.AtReset (kind : ResetKind) (s : State) : Prop :=
  (∀ t : TrunkId, s.trunk t =
    { format := { length := 24, width := .w8, idle := 0#16, keepForced := false },
      group := 0,
      rx := { state := .held, candidate := none, missCount := 0, lossCount := 0#16 },
      rxMask := { active := 0xFFFFFF#40, pending := 0xFFFFFF#40 },
      store := { filling := none, frames := [], next := 0#16 },
      tx := { state := .held, firstSent := false, lastSent := Vector.replicate 40 none, line := none,
              startDue := false },
      txMask := { active := 0xFFFFFF#40, pending := 0xFFFFFF#40 } }) ∧
  (∀ g : GroupId, s.group g =
    { config := { primary := none, standby := none, grace := 50#16, policy := .pass, rate := .r8000,
                  longLimit := 0#16 },
      state := .stopped, origin := .primary, graceTimer := none, lastLocked := none, previous := none,
      generator := none, due := none, meterCurrent := 0#16, meterMaximum := 0#16, longCount := 0#16 }) ∧
  (∀ (g : GroupId) (t : TrunkId), s.pair g t = { mark := none, repeats := 0#16, drops := 0#16, snapshot := none }) ∧
  (∀ d : FullSlot, s.entry d = .opened) ∧
  s.changes = [] ∧ s.batch = none ∧ s.nextBatch = 1#8 ∧ s.lastBatch = none ∧
  s.tap = { active := false, source := none, remaining := .frames 0#16, queue := [], overflow := 0#8,
            dropLogged := false } ∧
  s.playout = { queue := [], underruns := 0#16, episode := false } ∧
  s.attention = { flags := 0#12, rxLoss := 0#8, refLost := 0#4, refChange := 0#4, degraded := 0#4, slip := 0#4,
                  longFrame := 0#4, mask := 0xFFF#12, noticeWaiting := false } ∧
  s.uptime = 0#32 ∧
  s.link.phase = .inReset kind ∧ s.link.receiver = { state := .hunting, held := [], expected := 0, gap := none } ∧
  s.link.completed = none ∧ s.link.requestBuffer = none ∧ s.link.outgoing = [] ∧ s.link.contextSource = 0 ∧
  s.link.contextDestination = 0 ∧ s.link.discards = Vector.replicate 8 0#16 ∧ s.link.lastDiscard = none

/-! ### Laws of the state -/

/-- Capacities: capture queue, playout queue, fault log, change list, frame stores, and the miss count (R17, R66, R103,
R126, R135, R150). -/
abbrev State.Bounded (s : State) : Prop :=
  s.tap.queue.length ≤ 64 ∧ s.playout.queue.length ≤ 64 ∧ s.log.records.length ≤ 16 ∧ s.changes.length ≤ 64 ∧
    ∀ t : TrunkId, (s.trunk t).store.frames.length ≤ 3 ∧ (s.trunk t).rx.missCount ≤ 2

/-- A source with a set of trunks or groups has its flag set exactly when the set is not empty (R142). -/
abbrev State.FlagsMatchSets (s : State) : Prop :=
  s.attention.flags.getLsbD 0 = (s.attention.rxLoss != 0#8) ∧
    s.attention.flags.getLsbD 1 = (s.attention.refLost != 0#4) ∧
    s.attention.flags.getLsbD 2 = (s.attention.refChange != 0#4) ∧
    s.attention.flags.getLsbD 3 = (s.attention.degraded != 0#4) ∧
    s.attention.flags.getLsbD 4 = (s.attention.slip != 0#4) ∧
    s.attention.flags.getLsbD 5 = (s.attention.longFrame != 0#4)

/-- The outgoing queue holds at most one waiting reply, its head is no notice still to take its content, and it holds a
waiting ATTENTION notice, and then one, exactly while notice waiting is yes (R142, R165). -/
abbrev State.OutgoingLaw (s : State) : Prop :=
  s.link.outgoing.tail.countP OutMessage.isReply ≤ 1 ∧
    s.link.outgoing.head?.all (fun m => !m.isWaitingNotice) = true ∧
    s.link.outgoing.countP OutMessage.isWaitingNotice = if s.attention.noticeWaiting then 1 else 0

/-- Whether a group state is timed by the generator (R44). -/
def GroupState.generatorTimed : GroupState → Bool
  | .free => true
  | .acquiring => true
  | .holdover => true
  | .degraded => true
  | .stopped => false
  | .locked => false
  | .standby => false

/-- Whether a group state has its grace timer running (R56). -/
def GroupState.hasGrace : GroupState → Bool
  | .acquiring => true
  | .holdover => true
  | .free => false
  | .degraded => false
  | .stopped => false
  | .locked => false
  | .standby => false

/-- Whether a group state follows a reference (R47). -/
def GroupState.following : GroupState → Bool
  | .locked => true
  | .standby => true
  | .free => false
  | .acquiring => false
  | .holdover => false
  | .degraded => false
  | .stopped => false

/-- The pending generator boundary is present exactly in the generator-timed states (R44), the grace timer exactly in
ACQUIRING and HOLDOVER (R56), a boundary is due only in a state that follows a reference (R47), and a group is running
exactly when it has a RUN member (section 3.3). -/
abbrev State.TimingLaw (s : State) : Prop :=
  ∀ g : GroupId,
    (s.group g).generator.isSome = (s.group g).state.generatorTimed ∧
      (s.group g).graceTimer.isSome = (s.group g).state.hasGrace ∧
      ((s.group g).due.isSome = true → (s.group g).state.following = true) ∧
      ((s.group g).state ≠ .stopped ↔ s.hasRunMember g = true)

/-- The references of each record are members (R43), LOCKED holds only while the primary is ALIGNED, and STANDBY only
while the standby is (R53). -/
abbrev State.FollowLaw (s : State) : Prop :=
  ∀ g : GroupId,
    s.referencesValid g (s.group g).config = true ∧
      ((s.group g).state = .locked → s.primaryAligned g = true) ∧
      ((s.group g).state = .standby → s.standbyAligned g = true)

/-- A read mark is UNSET whenever its source is not ALIGNED or its group is STOPPED (R69). -/
abbrev State.MarkLaw (s : State) : Prop :=
  ∀ (g : GroupId) (t : TrunkId), (s.pair g t).mark.isSome = true →
    (s.trunk t).rx.state = .aligned ∧ (s.group g).state ≠ .stopped

/-- Whether a change entry is in flight. -/
def Change.inFlight (c : Change) : Bool := c.batch.isSome

/-- At most one staged and at most one in-flight entry for any destination (R103). -/
abbrev State.OneEntryEach (s : State) : Prop :=
  ∀ d : FullSlot, s.changes.countP (Change.stagedFor d) ≤ 1 ∧ s.changes.countP (Change.inFlightFor d) ≤ 1

/-- Every in-flight entry belongs to the single batch, whose remaining count is their number and at least 1; no batch
is present without them (R112). -/
abbrev State.BatchLaw (s : State) : Prop :=
  match s.batch with
  | none => s.changes.countP Change.inFlight = 0
  | some b =>
      s.changes.countP Change.inFlight = b.remaining ∧ 1 ≤ b.remaining ∧
        ∀ c ∈ s.changes, c.inFlight = true → c.batch = some b.id

/-- An in-flight entry has its destination on a trunk whose transmit section is RUN (R119). -/
abbrev State.FlightLaw (s : State) : Prop :=
  ∀ c ∈ s.changes, c.inFlight = true → (s.trunk c.destination.trunk).tx.state = .run

/-- Whether a slot exists (R1). -/
def State.exists (s : State) (d : FullSlot) : Bool := decide (d.slot.val < (s.trunk d.trunk).format.length)

/-- Whether what an entry names exists (R15). -/
def State.namesExisting (s : State) (e : MapEntry) : Bool :=
  match e with
  | .link source => s.exists source
  | .opened => true
  | .force _ => true
  | .hold => true
  | .play => true

/-- Every change entry names existing slots, every active entry names existing slots, and an active entry for a slot
that does not exist is OPEN (R15). -/
abbrev State.SlotLaw (s : State) : Prop :=
  (∀ c ∈ s.changes, s.exists c.destination = true ∧ s.namesExisting c.entry = true) ∧
    ∀ d : FullSlot, s.namesExisting (s.entry d) = true ∧ (s.exists d = false → s.entry d = .opened)

/-- Frame lengths lie in 2..40, and both sets of both masks below the frame length (R12, R32). -/
abbrev State.MaskLaw (s : State) : Prop :=
  ∀ t : TrunkId,
    2 ≤ (s.trunk t).format.length ∧ (s.trunk t).format.length ≤ 40 ∧
      (s.trunk t).rxMask.active &&& ~~~slotsBelow (s.trunk t).format.length = 0#40 ∧
      (s.trunk t).rxMask.pending &&& ~~~slotsBelow (s.trunk t).format.length = 0#40 ∧
      (s.trunk t).txMask.active &&& ~~~slotsBelow (s.trunk t).format.length = 0#40 ∧
      (s.trunk t).txMask.pending &&& ~~~slotsBelow (s.trunk t).format.length = 0#40

/-- Whether destination `d` is PLAY in the active map or in a change entry (R98). -/
abbrev State.PlayIn (s : State) (d : FullSlot) : Prop :=
  s.entry d = .play ∨ ∃ c ∈ s.changes, c.destination = d ∧ c.entry = .play

/-- No two different destinations are PLAY, counting the active map and the change list together (R98). -/
abbrev State.OnePlay (s : State) : Prop := ∀ d d' : FullSlot, s.PlayIn d → s.PlayIn d' → d = d'

/-- The state with every staged entry gone: its projected map is what DISCARD leaves (R111). -/
def State.unstaged (s : State) : State := { s with changes := s.changes.filter Change.inFlight }

/-- No source slot is linked from more than 12 destinations in the projected map, nor in the map that lies beneath the
staged entries (R96). -/
abbrev State.FanoutLaw (s : State) : Prop :=
  ∀ source : FullSlot, s.fanout source ≤ 12 ∧ s.unstaged.fanout source ≤ 12

/-- The frame store of a trunk that is not ALIGNED is empty with next number 0 (R23); that of an ALIGNED trunk is filling,
its completed frames carry the numbers that lead up to the next one, and each has L values (R22, R67). A snapshot has as many
values as the L it holds (R74). -/
abbrev State.StoreLaw (s : State) : Prop :=
  (∀ t : TrunkId,
    ((s.trunk t).rx.state ≠ .aligned → (s.trunk t).store = .empty) ∧
      ((s.trunk t).rx.state = .aligned → (s.trunk t).store.filling.isSome = true) ∧
      ((s.trunk t).store.frames.mapIdx fun i f =>
        f.seq + BitVec.ofNat 16 ((s.trunk t).store.frames.length - i)) =
          (s.trunk t).store.frames.map (fun _ => (s.trunk t).store.next) ∧
      ∀ f ∈ (s.trunk t).store.frames, f.values.length = (s.trunk t).format.length) ∧
    ∀ (g : GroupId) (t : TrunkId), ∀ f ∈ (s.pair g t).snapshot, f.values.length = f.length

/-- A FORCE value lies within a width; an entry without one does (R8). -/
def MapEntry.fits (w : Width) (e : MapEntry) : Bool :=
  match e with
  | .force v => w.holds v
  | .opened => true
  | .link _ => true
  | .hold => true
  | .play => true

/-- Every value held lies within the width it is held at (R8): the idle value, the last-sent values and the stored values of
a trunk and the FORCE values for its slots at its W, a snapshot's values at the W it holds, and a line's at the W it is sent
at. The last-sent values of a HELD section are all NONE (R84). -/
abbrev State.ValueLaw (s : State) : Prop :=
  (∀ t : TrunkId,
    (s.trunk t).format.width.holds (s.trunk t).format.idle = true ∧
      (∀ d : SlotId, ∀ v ∈ (s.trunk t).tx.lastSent[d], (s.trunk t).format.width.holds v = true) ∧
      ((s.trunk t).tx.state = .held → ∀ d : SlotId, (s.trunk t).tx.lastSent[d] = none) ∧
      (∀ f ∈ (s.trunk t).store.frames, ∀ v ∈ f.values, (s.trunk t).format.width.holds v = true) ∧
      ∀ line ∈ (s.trunk t).tx.line, ∀ x ∈ line.slots, ∀ v ∈ x, line.width.holds v = true) ∧
    (∀ (g : GroupId) (t : TrunkId), ∀ f ∈ (s.pair g t).snapshot, ∀ v ∈ f.values, f.width.holds v = true) ∧
    (∀ d : FullSlot, (s.entry d).fits (s.trunk d.trunk).format.width = true) ∧
    ∀ c ∈ s.changes, c.entry.fits (s.trunk c.destination.trunk).format.width = true

/-- No boundary of a group, taken or due, lies after the model's clock, and a last locked period, when present, is at least
one unit (R50, R51; the clock and the lower bound are logs 1 and 17). -/
abbrev State.ClockLaw (s : State) : Prop :=
  ∀ g : GroupId,
    (s.group g).lastLocked ≠ some 0#16 ∧
      (∀ b ∈ (s.group g).previous, b.time ≤ s.now) ∧
      ∀ b ∈ (s.group g).due, b.time ≤ s.now

/-! ### What a reference names, and what an event leaves -/

/-- A slot reference operand names slot `d`: it gives the trunk, or leaves it to the context trunk of its role (R3, R4). -/
abbrev SlotRef.Names (context : TrunkId) (r : SlotRef) (d : FullSlot) : Prop :=
  (r.trunk = trunkByte d.trunk ∨ (r.trunk = 0xFF#8 ∧ d.trunk = context)) ∧ r.slot = natByte d.slot.val

/-- A destination reference resolves to the existing slot `d` (R3, R4). -/
abbrev State.DestinationIs (s : State) (r : SlotRef) (d : FullSlot) : Prop :=
  SlotRef.Names s.link.contextDestination r d ∧ s.exists d = true

/-- A source reference resolves to the existing slot `d` (R3, R4). -/
abbrev State.SourceIs (s : State) (r : SlotRef) (d : FullSlot) : Prop :=
  SlotRef.Names s.link.contextSource r d ∧ s.exists d = true

/-- A staging command passes checks 1 and 2 of R104, for destination `d` and new entry `e` (R105 to R108). -/
def State.PassesStaging (s : State) (i : Instr) (d : FullSlot) (e : MapEntry) : Prop :=
  match i with
  | .stageOpen r => s.DestinationIs r d ∧ e = .opened
  | .stageHold r => s.DestinationIs r d ∧ e = .hold
  | .stageForce r v =>
      s.DestinationIs r d ∧ e = .force v ∧ ((s.trunk d.trunk).format.width = .w8 → v.toNat ≤ 255)
  | .stageLink r q =>
      s.DestinationIs r d ∧ ∃ source, s.SourceIs q source ∧ e = .link source ∧
        (s.projected d = .link source ∨ s.fanout source + 1 ≤ 12)
  | .stagePlay r => s.DestinationIs r d ∧ e = .play ∧ ∀ d' : FullSlot, d' ≠ d → ¬s.PlayIn d'
  | _ => False

/-- The number of in-flight entries whose destination trunk satisfies `p`. -/
def State.inFlightCount (p : TrunkId → Bool) (s : State) : Nat :=
  s.changes.countP fun c => c.inFlight && p c.destination.trunk

/-- What the application of the in-flight entries on the trunks `p` leaves of the change list, the batch, the last batch
record and the attention unit (R113, R114). -/
abbrev State.InFlightLeft (p : TrunkId → Bool) (s u : State) : Prop :=
  u.changes = s.changes.filter (fun c => !(c.inFlight && p c.destination.trunk)) ∧
    match s.batch with
    | none => u.batch = none ∧ u.lastBatch = s.lastBatch ∧ u.attention = s.attention
    | some b =>
        if s.inFlightCount p = 0 then u.batch = some b ∧ u.lastBatch = s.lastBatch ∧ u.attention = s.attention
        else if s.inFlightCount p = b.remaining then
          u.batch = none ∧ u.lastBatch = some { id := b.id, applied := b.count } ∧
            u.attention = s.attention.raise .batchDone
        else
          u.batch = some { b with remaining := b.remaining - s.inFlightCount p } ∧ u.lastBatch = s.lastBatch ∧
            u.attention = s.attention

/-- The active entry of `d` once its in-flight entry has been applied (R113). -/
def State.appliedEntry (s : State) (d : FullSlot) : MapEntry :=
  match s.changes.find? (Change.inFlightFor d) with
  | some c => c.entry
  | none => s.entry d

/-- What the transmit holds of the trunks `p`, all members of `g`, leave (R29, R30, R46, R74, R92): nothing else is
changed. -/
abbrev State.HoldsLeave (g : GroupId) (p : TrunkId → Bool) (s u : State) : Prop :=
  s.InFlightLeft p u ∧
    (∀ d : FullSlot, u.entry d =
      if p d.trunk then
        if (s.trunk d.trunk).format.keepForced = false ∧ (s.appliedEntry d).isForce = true then .opened
        else s.appliedEntry d
      else s.entry d) ∧
    (∀ t : TrunkId, u.trunk t =
      if p t then
        { s.trunk t with
          txMask := { active := (s.trunk t).txMask.pending, pending := (s.trunk t).txMask.pending }
          tx := { state := .held, firstSent := false, lastSent := Vector.replicate 40 none, line := none,
                  startDue := false } }
      else s.trunk t) ∧
    (∀ g' : GroupId, u.group g' =
      if g' = g ∧ (s.group g).state ≠ .stopped ∧ ∀ t : TrunkId, (s.trunk t).runMember g = true → p t = true then
        { s.group g with state := .stopped, graceTimer := none, generator := none, due := none }
      else s.group g') ∧
    (∀ (g' : GroupId) (t' : TrunkId), u.pair g' t' =
      if g' = g ∧ (s.group g).state ≠ .stopped ∧ ∀ t : TrunkId, (s.trunk t).runMember g = true → p t = true then
        { s.pair g t' with mark := none, snapshot := none }
      else s.pair g' t') ∧
    u = { s with
      trunks := u.trunks
      groups := u.groups
      pairs := u.pairs
      map := u.map
      changes := u.changes
      batch := u.batch
      lastBatch := u.lastBatch
      attention := u.attention }

/-- What a boundary `b` of group `g` leaves (R50, R51, R62, R63, R73): the selections, the group's own record, the starts of
the RUN members, and SLIP and LONG_FRAME; nothing else is changed. -/
abbrev State.BoundaryLeaves (g : GroupId) (b : Boundary) (s u : State) : Prop :=
  (∀ (g' : GroupId) (t : TrunkId),
      u.pair g' t = if g' = g then (s.pair g t).select (s.trunk t) else s.pair g' t) ∧
    (∀ t : TrunkId, u.trunk t =
      if (s.trunk t).group = g ∧ (s.trunk t).tx.state = .run then
        { s.trunk t with tx := { (s.trunk t).tx with startDue := true } }
      else s.trunk t) ∧
    (∀ g' : GroupId, g' ≠ g → u.group g' = s.group g') ∧
    (match (s.group g).previous with
      | none =>
          u.group g = { s.group g with previous := some b, due := none }
      | some q =>
          u.group g =
            { s.group g with
              previous := some b
              due := none
              meterCurrent := interval q b
              meterMaximum := if (s.group g).meterMaximum < interval q b then interval q b
                              else (s.group g).meterMaximum
              longCount :=
                if (s.group g).config.longLimit ≠ 0#16 ∧ (s.group g).config.longLimit < interval q b then
                  satAdd (s.group g).longCount 1
                else (s.group g).longCount
              lastLocked :=
                if b.cause ≠ none ∧ b.cause = q.cause ∧ interval q b ≠ 0#16 then some (interval q b)
                else (s.group g).lastLocked }) ∧
    (∃ long : Bool,
      (long = true ↔ ∃ q, (s.group g).previous = some q ∧ (s.group g).config.longLimit ≠ 0#16 ∧
        (s.group g).config.longLimit < interval q b) ∧
      ∃ slips : Bool, (slips = true ↔ ∃ t : TrunkId, (s.pair g t).slips (s.trunk t) = true) ∧
        u.attention =
          (fun a : Attention => if long then a.raise (.longFrame g) else a)
            (if slips then s.attention.raise (.slip g) else s.attention)) ∧
    u = { s with trunks := u.trunks, groups := u.groups, pairs := u.pairs, attention := u.attention }

end Sys2Proof.Machine
end

