-- ==== Sys2Proof/Certificates/Slice0/Obligations.lean ====
section
/-! DEFINITION. The statements about the model, one `Obligations.<Name>` each. A request command is stated where it is
`Ready`: start-up is over, the buffer holds this request or none, no reply waits, and nothing is due before it; its
conclusion is the exact next state, `(state).replied code payload`. An event is stated where the state is `Settled`; its
conclusion is `u.finish` with `u` spelled out. `RequestWaits`, `BusyRequestDropped`, `ResetsTakeEffect` and
`DueEventsComeFirst` cover the states in which a command does not act at once. A request row is the arrival of its request
and its taking (log 3), and a row of time carries its time (log 1). -/

section
open Sys2Proof Sys2Proof.Machine

/-! ### Steps -/

/-- A step takes the command at the front of the queue and runs it on the state with the queue's rest; on an empty queue the
part idles, which is the model's choice (log 8). -/
def Obligations.StepRunsFrontCommand : Prop :=
  (∀ (c : Instr) (rest : List Instr) (s : State), s.pending = c :: rest →
      step s = exec c { s with pending := rest }) ∧
    (∀ (c : Instr) (s : State), step { s with pending := c :: s.pending } = exec c s) ∧
    ∀ s : State, s.pending = [] → step s = .next s

/-- Every command answers a next state in every state. It never touches the queue, not even at a reset (log 23), and the
model's clock never runs back (log 1): both are the model's choices. -/
def Obligations.EveryCommandAnswersNext : Prop :=
  ∀ (i : Instr) (s : State), ∃ t : State, exec i s = .next t ∧ t.pending = s.pending ∧ s.now ≤ t.now

/-! ### Resets, start-up, the outgoing queue -/

/-- R166: power-on and the reset input put every item at its value after a reset, in every state; from then to start-up no
event of any block occurs and no byte is taken. What survives of the model itself, and that a reset acts in every phase,
is logs 22 and 23; that the receiver then expects 0 bytes is log 28. -/
def Obligations.ResetsTakeEffect : Prop :=
  (State.reset.AtReset .power ∧ State.reset.log = { records := [], next := 0#16 } ∧ State.reset.pending = []) ∧
    (∀ s : State,
      (∃ t, exec .powerOn s = .next t ∧ t.AtReset .power) ∧ ∃ t, exec .resetInputAsserted s = .next t ∧ t.AtReset .line) ∧
    ∀ (i : Instr) (s : State) (kind : ResetKind), s.link.phase = .inReset kind → i ≠ .powerOn →
      i ≠ .resetInputAsserted → (∀ strap, i ≠ .startUp strap) → exec i s = .next s

/-- R154: what the fault log holds through each reset, and the START record of the start-up that follows. The rate strap
is an operand (log 10). -/
def Obligations.FaultLogAcrossResets : Prop :=
  (∀ s : State,
      (∃ t, exec .powerOn s = .next t ∧ t.log = { records := [], next := 0#16 }) ∧
        ∃ t, exec .resetInputAsserted s = .next t ∧ t.log = s.log) ∧
    (∀ (s : State) (strap : Bool) (rest : List OutMessage), s.Settled → s.link.phase = .restarting →
      s.link.outgoing = .reply 0x02#8 [0x00#8] :: rest →
      ∃ u : State, u.AtReset .command ∧ u.log = s.log ∧ exec (.messageSent strap) s = exec (.startUp strap) u) ∧
    ∀ (s : State) (kind : ResetKind) (strap : Bool), s.AtReset kind → s.log.records.length ≤ 16 →
      exec (.startUp strap) s = .next
        { s with
          log := {
            records := s.log.records.drop (s.log.records.length - 15) ++
              [{ seq := s.log.next, event := .start kind, time := 0#32 }]
            next := s.log.next + 1#16 }
          attention :=
            if s.log.records.length = 16 then { s.attention with flags := 0x800#12, noticeWaiting := true }
            else s.attention
          link := { s.link with
            phase := .startUp
            rate := if strap then .baud921600 else .baud115200
            outgoing := .ready kind :: if s.log.records.length = 16 then [.attention none] else [] } }

/-- R165, R167, R168: a message whose last byte is sent leaves the queue, and the end of READY ends start-up; RESTART is
answered with OK, and the link is restarting until that reply has been sent. The rate strap is an operand (log 10). -/
def Obligations.MessageSentAndRestart : Prop :=
  (∀ (s : State) (strap : Bool) (m : OutMessage) (rest : List OutMessage), s.Settled → s.link.outgoing = m :: rest →
      ¬(s.link.phase = .restarting ∧ m = .reply 0x02#8 [0x00#8]) →
      exec (.messageSent strap) s = .next (State.finish
        { s with link := { s.link with
            outgoing := rest
            phase := if s.link.phase = .startUp ∧ m.isReady = true then .operating else s.link.phase } })) ∧
    ∀ s : State, s.Ready ⟨0x02#8, []⟩ →
      exec .restart s = .next (State.replied 0x02#8 [0x00#8] { s with link := { s.link with phase := .restarting } })

/-- R146, R147, R165: at the end of an event, a notice asked for joins the outgoing queue, where none waits in it yet, and a
waiting notice that has come to the head takes the attention set and the mask as they stand, when notice waiting becomes no.
An event that raises several sources asks for one notice. MESSAGE_SENT brings a waiting notice to the head. That sending
begins at the end of the event is log 12, and the rate strap operand is log 10. -/
def Obligations.EndOfEventQueuesAndSends : Prop :=
  let content := fun a : Attention =>
    { flags := a.flags, rxLoss := a.rxLoss, refLost := a.refLost, refChange := a.refChange, degraded := a.degraded,
      slip := a.slip, longFrame := a.longFrame, mask := a.mask : AttentionReport }
  (∀ s : State, s.OutgoingLaw → s.finish = s) ∧
    (∀ u : State,
      (u.attention.noticeWaiting = true → u.link.outgoing = [] →
          u.finish =
            { u with
              attention := { u.attention with noticeWaiting := false }
              link := { u.link with outgoing := [.attention (some (content u.attention))] } }) ∧
        (u.attention.noticeWaiting = true → u.link.outgoing ≠ [] → OutMessage.attention none ∉ u.link.outgoing →
          u.finish = { u with link := { u.link with outgoing := u.link.outgoing ++ [.attention none] } }) ∧
        (∀ rest : List OutMessage, u.link.outgoing = .attention none :: rest →
          u.finish =
            { u with
              attention := { u.attention with noticeWaiting := false }
              link := { u.link with outgoing := .attention (some (content u.attention)) :: rest } }) ∧
        (u.link.outgoing.head? ≠ some (.attention none) →
          (u.attention.noticeWaiting = false ∨ OutMessage.attention none ∈ u.link.outgoing) → u.finish = u)) ∧
    (∀ (s : State) (rs : List Raising),
      let a := rs.foldl (fun a r => a.raise r) s.attention
      rs.foldl (fun u r => u.raise r) s = { s with attention := a } ∧
        (a.noticeWaiting = true ↔ s.attention.noticeWaiting = true ∨
          ∃ r ∈ rs, s.attention.mask.getLsbD r.source.val = true ∧ s.attention.flags.getLsbD r.source.val = false) ∧
        (s.OutgoingLaw →
          { s with attention := a }.finish =
            if s.attention.noticeWaiting = a.noticeWaiting then { s with attention := a }
            else if s.link.outgoing = [] then
              { s with
                attention := { a with noticeWaiting := false }
                link := { s.link with outgoing := [.attention (some (content a))] } }
            else
              { s with
                attention := a
                link := { s.link with outgoing := s.link.outgoing ++ [.attention none] } })) ∧
    ∀ (s : State) (strap : Bool) (m : OutMessage) (rest : List OutMessage), s.Settled →
      s.link.outgoing = m :: .attention none :: rest → ¬(s.link.phase = .restarting ∧ m = .reply 0x02#8 [0x00#8]) →
      exec (.messageSent strap) s = .next
        { s with
          attention := { s.attention with noticeWaiting := false }
          link := { s.link with
            outgoing := .attention (some (content s.attention)) :: rest
            phase := if s.link.phase = .startUp ∧ m.isReady = true then .operating else s.link.phase } }

/-- R163: while an earlier reply waits, a request enters the buffer or stays there, and is not taken. That a row is both
the arrival and the taking of its request is log 3. -/
def Obligations.RequestWaits : Prop :=
  ∀ (i : Instr) (r : Request) (s : State), i.wellFormed = true → encodeRequest i = some r → s.Settled →
    s.OutgoingLaw → s.link.phase = .operating → (s.link.requestBuffer = none ∨ s.link.requestBuffer = some r) →
    s.replyWaiting = true → exec i s = .next { s with link := { s.link with requestBuffer := some r } }

/-- R160 checks 3 to 5, R161: a request that completes during start-up, while restarting, or while the buffer is occupied
by another is discarded with kind BUSY_DROP, and nothing else happens. A discard counts its kind up to 65535, becomes the
last discard kind and raises LINK_ERROR. That a row is both the arrival and the taking of its request is log 3. -/
def Obligations.BusyRequestDropped : Prop :=
  (∀ (i : Instr) (r : Request) (s : State), i.wellFormed = true → encodeRequest i = some r → s.Settled →
      s.link.requestBuffer ≠ some r → (s.link.phase ≠ .operating ∨ s.link.requestBuffer ≠ none) →
      exec i s = .next (s.discardMessage .busyDrop).finish) ∧
    ∀ (s : State) (k : DiscardKind),
      s.discardMessage k =
        { s with
          attention := s.attention.raise .linkError
          link := { s.link with
            lastDiscard := some k
            discards := s.link.discards.set k.index
              (if s.link.discards[k.index] = 0xFFFF#16 then 0xFFFF#16 else s.link.discards[k.index] + 1#16) } }

/-- R163: an unknown code is answered with UNKNOWN_COMMAND and a wrong payload size with BAD_LENGTH; the codes and sizes are
those of R172. -/
def Obligations.LinkAnswersUnknownAndBadLength : Prop :=
  (∀ (code : Byte) (payload : List Byte) (s : State), knownCode code = false → s.Ready ⟨code, payload⟩ →
      exec (.unknownCommand code payload) s = .next (s.replied code [0x02#8])) ∧
    (∀ (code : Byte) (payload : List Byte) (s : State), knownCode code = true → payloadSizeRight code payload = false →
      s.Ready ⟨code, payload⟩ → exec (.payloadSizeWrong code payload) s = .next (s.replied code [0x03#8])) ∧
    (∀ (code : Byte) (payload : List Byte), code ≠ 0x48#8 →
      (knownCode code = true ∧ payloadSizeRight code payload = true ↔
        (code.toNat, payload.length) ∈ [(0x01, 0), (0x02, 0), (0x03, 2), (0x04, 0), (0x05, 1), (0x10, 6), (0x11, 2),
          (0x12, 1), (0x13, 1), (0x14, 1), (0x15, 1), (0x16, 7), (0x20, 9), (0x21, 2), (0x22, 1), (0x23, 1), (0x24, 1),
          (0x28, 2), (0x29, 2), (0x30, 4), (0x31, 2), (0x32, 4), (0x33, 2), (0x34, 2), (0x35, 2), (0x36, 0), (0x37, 0),
          (0x38, 0), (0x39, 2), (0x3A, 4), (0x40, 4), (0x41, 0), (0x42, 1), (0x49, 0), (0x4A, 1), (0x50, 0), (0x51, 2),
          (0x52, 2), (0x58, 1), (0x59, 0)])) ∧
    knownCode 0x48#8 = true ∧
    ∀ count : Byte, ∀ rest : List Byte,
      payloadSizeRight 0x48#8 [] = false ∧
        (payloadSizeRight 0x48#8 (count :: rest) = true ↔ rest.length = 2 * count.toNat)

/-- R169, R170: IDENTIFY reports its figures and changes nothing; LINK STATUS reports the counts, the last kind and the
rate, and clears the first two when asked. -/
def Obligations.IdentifyAndLinkStatusReport : Prop :=
  (∀ s : State, s.Ready ⟨0x01#8, []⟩ →
      exec .identify s = .next (s.replied 0x01#8
        [0x00#8, 0x3A#8, 0x71#8, 0x08#8, 0x40#8, 1#8, 8#8, 40#8, 4#8, 64#8, 64#8, 16#8])) ∧
    ∀ s : State,
      let count := fun k : DiscardKind => bytes2 s.link.discards[k.index]
      let report := 0x00#8 :: (count .parity ++ count .framing ++ count .overrun ++ count .length ++ count .check ++
        count .timeout ++ count .kind ++ count .busyDrop ++ [discardByte s.link.lastDiscard, s.link.rate.byte])
      (s.Ready ⟨0x05#8, [0#8]⟩ → exec (.linkStatus 0#8) s = .next (s.replied 0x05#8 report)) ∧
        (s.Ready ⟨0x05#8, [1#8]⟩ →
          exec (.linkStatus 1#8) s = .next (State.replied 0x05#8 report
            { s with link := { s.link with discards := Vector.replicate 8 0#16, lastDiscard := none } })) ∧
        ∀ c : Byte, 2 ≤ c.toNat → s.Ready ⟨0x05#8, [c]⟩ → exec (.linkStatus c) s = .next (s.replied 0x05#8 [0x04#8])

/-! ### The receiver -/

/-- R158, R159: a byte without error acts by the state of the receiver; a byte error is passed over in HUNTING and otherwise
discards the message being received, with the first kind that applies. That 0 bytes are expected in HUNTING is log 28. -/
def Obligations.ByteArrivals : Prop :=
  (∀ (s : State) (b : Byte), s.Settled →
    exec (.linkByteArrival b false false false) s = .next (State.finish (
      match s.link.receiver.state with
      | .hunting =>
          if b = 0xA5#8 then
            { s with link := { s.link with receiver := { state := .length, held := [], expected := 0, gap := some 0 } } }
          else s
      | .length =>
          if 2 ≤ b.toNat ∧ b.toNat ≤ 202 then
            { s with link := { s.link with
                receiver := { state := .body, held := [b], expected := b.toNat, gap := some 0 } } }
          else
            State.discardMessage .length { s with link := { s.link with
                receiver := { state := .hunting, held := [], expected := 0, gap := none } } }
      | .body =>
          { s with link := { s.link with
              receiver := {
                state := if s.link.receiver.expected - 1 = 0 then .check else .body
                held := s.link.receiver.held ++ [b]
                expected := s.link.receiver.expected - 1
                gap := some 0 } } }
      | .check =>
          { s with link := { s.link with
              receiver := { state := .hunting, held := [], expected := 0, gap := none }
              completed := some (s.link.receiver.held ++ [b]) } }))) ∧
    ∀ (s : State) (b : Byte) (parity framing overrun : Bool), s.Settled →
      (parity = true ∨ framing = true ∨ overrun = true) →
      exec (.linkByteArrival b parity framing overrun) s = .next (State.finish (
        if s.link.receiver.state = .hunting then s
        else
          State.discardMessage (if parity then .parity else if framing then .framing else .overrun)
            { s with link := { s.link with
                receiver := { state := .hunting, held := [], expected := 0, gap := none } } }))

/-- R160, R162: the message-complete event makes its checks in order, and the inter-byte timeout discards. A message runs
from its length byte to its check byte. That the two follow at once on their cause is log 4, and that 0 bytes are expected
in HUNTING is log 28. -/
def Obligations.MessageCompletesOrTimesOut : Prop :=
  (∀ (s : State) (len kind code check : Byte) (payload : List Byte), s.inReset = false →
      s.link.completed = some (len :: kind :: code :: payload ++ [check]) →
      exec .messageComplete s = .next (State.finish (
        let v := { s with link := { s.link with completed := none } }
        if check ≠ crc (len :: kind :: code :: payload) then v.discardMessage .check
        else if kind ≠ 0x01#8 then v.discardMessage .kind
        else if s.link.phase ≠ .operating ∨ s.link.requestBuffer ≠ none then v.discardMessage .busyDrop
        else { v with link := { v.link with requestBuffer := some ⟨code, payload⟩ } }))) ∧
    ∀ (s : State) (n : Nat), s.inReset = false → s.link.receiver.gap = some n → 21 ≤ n →
      exec .interByteTimeout s = .next (State.finish (State.discardMessage .timeout
        { s with link := { s.link with receiver := { state := .hunting, held := [], expected := 0, gap := none } } }))

/-- R156, R157, R171: a message as bytes and as levels. The check byte is the remainder, bit by bit, of the bytes by
x^8+x^2+x+1; a message with its own check byte behind it leaves the register at 0. A byte is a start bit, eight data bits,
the least significant first, an even-parity bit and a stop bit; a message's bytes follow one another with no gap, and
otherwise the output rests at the idle level. The same levels, received, are a byte arrival. Which level is idle, and that a
1 is the high level, is log 29. -/
def Obligations.CheckByteIsRemainder : Prop :=
  let odd := fun b : Byte => decide (((List.range 8).countP fun n => b.getLsbD n) % 2 = 1)
  (crc [] = 0#8 ∧
    (∀ (bytes : List Byte) (b : Byte), crc (bytes ++ [b]) = crc [crc bytes ^^^ b]) ∧
    (∀ b : Byte, crc [b] =
      (List.range 8).foldl (fun r _ => if r.msb then (r <<< 1) ^^^ 0x07#8 else r <<< 1) b) ∧
    ∀ bytes : List Byte, crc (bytes ++ [crc bytes]) = 0#8) ∧
    ((∀ (kind code : Byte) (payload : List Byte),
        messageBytes kind code payload =
          [0xA5#8, natByte (payload.length + 2), kind, code] ++ payload ++
            [crc (natByte (payload.length + 2) :: kind :: code :: payload)]) ∧
      (∀ (code : Byte) (payload : List Byte), (OutMessage.reply code payload).bytes = messageBytes 0x02#8 code payload) ∧
      (∀ kind : ResetKind, (OutMessage.ready kind).bytes = messageBytes 0x03#8 0x01#8
        [match kind with
          | .power => 0#8
          | .line => 1#8
          | .command => 2#8]) ∧
      ∀ r : AttentionReport, (OutMessage.attention (some r)).bytes = messageBytes 0x03#8 0x02#8
        (bytes2 (r.flags.setWidth 16) ++ [r.rxLoss, r.refLost.setWidth 8, r.refChange.setWidth 8, r.degraded.setWidth 8,
          r.slip.setWidth 8, r.longFrame.setWidth 8] ++ bytes2 (r.mask.setWidth 16))) ∧
    (∀ s : State,
      (s.link.outgoing = [] → ∀ n : Nat, s.transmitLevel n = idleLevel) ∧
        ∀ (m : OutMessage) (rest : List OutMessage), s.link.outgoing = m :: rest →
          (∀ (k i : Nat) (b : Byte), m.bytes[k]? = some b → i < 11 →
            s.transmitLevel (11 * k + i) =
              if i = 0 then !idleLevel else if i ≤ 8 then b.getLsbD (i - 1) else if i = 9 then odd b else idleLevel) ∧
          ∀ n : Nat, 11 * m.bytes.length ≤ n → s.transmitLevel n = idleLevel) ∧
    (∀ (f : SerialFrame) (overrun : Bool),
      (f.getLsbD 0 = idleLevel → f.arrival overrun = none) ∧
        ∀ b : Byte, f.getLsbD 0 = !idleLevel → (∀ n : Fin 8, f.getLsbD (n.val + 1) = b.getLsbD n.val) →
          f.arrival overrun =
            some (.linkByteArrival b (f.getLsbD 9 != odd b) (f.getLsbD 10 != idleLevel) overrun)) ∧
    LineRate.baud115200.bitsPerSecond = 115200 ∧ LineRate.baud921600.bitsPerSecond = 921600

/-! ### Addressing context -/

/-- R6, R7: SET CONTEXT replaces the trunks it names and reports the context; an operand that is neither a trunk nor
"unchanged" (0xFF) refuses it. GET CONTEXT reports it. `referenceByte` is the trunk's number, or 0xFF for `none`. -/
def Obligations.ContextCommands : Prop :=
  (∀ (s : State) (source destination : Option TrunkId),
      s.Ready ⟨0x03#8, [referenceByte source, referenceByte destination]⟩ →
      exec (.setContext (referenceByte source) (referenceByte destination)) s = .next (State.replied 0x03#8
        [0x00#8, trunkByte (source.getD s.link.contextSource), trunkByte (destination.getD s.link.contextDestination)]
        { s with link := { s.link with
            contextSource := source.getD s.link.contextSource
            contextDestination := destination.getD s.link.contextDestination } })) ∧
    (∀ (s : State) (a b : Byte), ((8 ≤ a.toNat ∧ a ≠ 0xFF#8) ∨ (8 ≤ b.toNat ∧ b ≠ 0xFF#8)) → s.Ready ⟨0x03#8, [a, b]⟩ →
      exec (.setContext a b) s = .next (s.replied 0x03#8 [0x04#8])) ∧
    ∀ s : State, s.Ready ⟨0x04#8, []⟩ →
      exec .getContext s = .next (s.replied 0x04#8
        [0x00#8, trunkByte s.link.contextSource, trunkByte s.link.contextDestination])

/-- R9: width conversion, its range, and the two round trips. -/
def Obligations.WidthConversion : Prop :=
  (∀ (w : Width) (v : Value), convert w w v = v) ∧
    (∀ v : Value, v.toNat ≤ 255 → (convert .w8 .w16 v).toNat = 256 * v.toNat) ∧
    (∀ v : Value, (convert .w16 .w8 v).toNat = v.toNat / 256 ∧ (convert .w16 .w8 v).toNat ≤ 255) ∧
    (∀ v : Value, v.toNat ≤ 255 → convert .w16 .w8 (convert .w8 .w16 v) = v) ∧
    ∀ v : Value, (convert .w8 .w16 (convert .w16 .w8 v)).toNat = v.toNat - v.toNat % 256

/-! ### FORMAT -/

/-- R13: the four checks of FORMAT in order, and a FORMAT that repeats the record. -/
def Obligations.FormatChecksInOrder : Prop :=
  (∀ (s : State) (a l w : Byte) (idle : Value) (e : Byte),
      ¬(a.toNat < 8 ∧ 2 ≤ l.toNat ∧ l.toNat ≤ 40 ∧ ((w = 8#8 ∧ idle.toNat ≤ 255) ∨ w = 16#8) ∧ e.toNat ≤ 1) →
      s.Ready ⟨0x10#8, [a, l, w, hiByte idle, loByte idle, e]⟩ →
      exec (.format a l w idle e) s = .next (s.replied 0x10#8 [0x04#8])) ∧
    (∀ (s : State) (t : TrunkId) (l w : Byte) (idle : Value) (e : Byte),
      2 ≤ l.toNat → l.toNat ≤ 40 → ((w = 8#8 ∧ idle.toNat ≤ 255) ∨ w = 16#8) → e.toNat ≤ 1 →
      s.Ready ⟨0x10#8, [trunkByte t, l, w, hiByte idle, loByte idle, e]⟩ →
      let held := (s.trunk t).rx.state = .held ∧ (s.trunk t).tx.state = .held
      let named := ∃ c ∈ s.changes, c.destination.trunk = t ∨ ∃ source, c.entry = .link source ∧ source.trunk = t
      let tapped := s.tap.active = true ∧ ∃ source, s.tap.source = some source ∧ source.trunk = t
      (¬held → exec (.format (trunkByte t) l w idle e) s = .next (s.replied 0x10#8 [0x05#8])) ∧
        (held → named → exec (.format (trunkByte t) l w idle e) s = .next (s.replied 0x10#8 [0x0E#8])) ∧
        (held → ¬named → tapped → exec (.format (trunkByte t) l w idle e) s = .next (s.replied 0x10#8 [0x0F#8])) ∧
        (held → ¬named → ¬tapped →
          ∃ u : State, exec (.format (trunkByte t) l w idle e) s = .next (u.replied 0x10#8 [0x00#8]))) ∧
    ∀ (s : State) (t : TrunkId), s.SlotLaw → s.MaskLaw → (s.trunk t).rx.state = .held → (s.trunk t).tx.state = .held →
      (∀ c ∈ s.changes, c.names t = false) → s.tapOn t = false →
      (s.trunk t).format.width.holds (s.trunk t).format.idle = true →
      let f := (s.trunk t).format
      s.Ready ⟨0x10#8, [trunkByte t, natByte f.length, f.width.byte, hiByte f.idle, loByte f.idle,
        boolByte f.keepForced]⟩ →
      exec (.format (trunkByte t) (natByte f.length) f.width.byte f.idle (boolByte f.keepForced)) s =
        .next (s.replied 0x10#8 [0x00#8])

/-- R14, R15, R16: what a FORMAT that is taken makes of the format record, the four slot sets and the active map; everything
else stays. -/
def Obligations.FormatEffects : Prop :=
  ∀ (s : State) (t : TrunkId) (l : Byte) (w : Width) (idle : Value) (keep : Bool),
    2 ≤ l.toNat → l.toNat ≤ 40 → (w = .w8 → idle.toNat ≤ 255) →
    (s.trunk t).rx.state = .held → (s.trunk t).tx.state = .held →
    (∀ c ∈ s.changes, c.names t = false) → s.tapOn t = false →
    s.Ready ⟨0x10#8, [trunkByte t, l, w.byte, hiByte idle, loByte idle, boolByte keep]⟩ →
    ∃ u : State, exec (.format (trunkByte t) l w.byte idle (boolByte keep)) s = .next (u.replied 0x10#8 [0x00#8]) ∧
      u = { s with trunks := u.trunks, map := u.map } ∧
      (∀ t' : TrunkId, t' ≠ t → u.trunk t' = s.trunk t') ∧
      (u.trunk t =
        { s.trunk t with
          format := { length := l.toNat, width := w, idle := idle, keepForced := keep }
          rxMask := (u.trunk t).rxMask
          txMask := (u.trunk t).txMask }) ∧
      (∀ d : SlotId,
        let member := fun old : Bool =>
          if l.toNat ≤ d.val then false else if (s.trunk t).format.length ≤ d.val then true else old
        inSet (u.trunk t).rxMask.active d = member (inSet (s.trunk t).rxMask.active d) ∧
          inSet (u.trunk t).rxMask.pending d = member (inSet (s.trunk t).rxMask.pending d) ∧
          inSet (u.trunk t).txMask.active d = member (inSet (s.trunk t).txMask.active d) ∧
          inSet (u.trunk t).txMask.pending d = member (inSet (s.trunk t).txMask.pending d)) ∧
      ∀ d : FullSlot, u.entry d =
        if d.trunk = t ∧ l.toNat ≤ d.slot.val then .opened
        else
          match s.entry d with
          | .link source => if source.trunk = t ∧ l.toNat ≤ source.slot.val then .opened else .link source
          | .force v => .force (if d.trunk = t then convert (s.trunk t).format.width w v else v)
          | .opened => .opened
          | .hold => .hold
          | .play => .play

/-! ### Run, hold, masks, trunk status -/

/-- R18: RX RUN starts the search in HELD, and is refused elsewhere. -/
def Obligations.RxRunStartsSearch : Prop :=
  (∀ (s : State) (t : TrunkId), s.Ready ⟨0x12#8, [trunkByte t]⟩ →
      exec (.rxRun (trunkByte t)) s = .next (
        if (s.trunk t).rx.state = .held then
          State.replied 0x12#8 [0x00#8] (s.modifyTrunk t fun k =>
            { k with rx := { k.rx with state := .hunt, candidate := none, missCount := 0 } })
        else s.replied 0x12#8 [0x10#8])) ∧
    ∀ (s : State) (a : Byte), 8 ≤ a.toNat → s.Ready ⟨0x12#8, [a]⟩ →
      exec (.rxRun a) s = .next (s.replied 0x12#8 [0x04#8])

/-- R23, R24, R48, R53: RX HOLD, taken at `time`, where no boundary of a group that follows the trunk is due. A hold of
the followed reference takes the group to HOLDOVER. The time operand and `now` are log 1. -/
def Obligations.RxHoldStopsReceiving : Prop :=
  (∀ (s : State) (t : TrunkId) (time : Time), s.Ready ⟨0x13#8, [trunkByte t]⟩ →
      ((s.group (s.trunk t).group).follows t = true → (s.group (s.trunk t).group).due = none) →
      ∃ u : State,
        (∀ t' : TrunkId, u.trunk t' =
          if t' = t then
            { s.trunk t with
              rx := { (s.trunk t).rx with state := .held, candidate := none, missCount := 0 }
              rxMask := { active := (s.trunk t).rxMask.pending, pending := (s.trunk t).rxMask.pending }
              store := { filling := none, frames := [], next := 0#16 } }
          else s.trunk t') ∧
        (∀ (g : GroupId) (t' : TrunkId), u.pair g t' =
          if t' = t then { s.pair g t' with mark := none } else s.pair g t') ∧
        u = { s with trunks := u.trunks, pairs := u.pairs, now := max s.now time } ∧
        exec (.rxHold time (trunkByte t)) s = .next (State.replied 0x13#8 [0x00#8] (
          let g := (s.trunk t).group
          let c := (s.group g).config
          if (s.trunk t).rx.state = .aligned ∧ (s.group g).state = .locked ∧ c.primary = some t then
            u.enterHoldover g .primary (max s.now time)
          else if (s.trunk t).rx.state = .aligned ∧ (s.group g).state = .standby ∧ c.standby = some t then
            u.enterHoldover g .standby (max s.now time)
          else u))) ∧
    ∀ (s : State) (time : Time) (a : Byte), 8 ≤ a.toNat → s.Ready ⟨0x13#8, [a]⟩ →
      exec (.rxHold time a) s = .next (s.replied 0x13#8 [0x04#8])

/-- R27, R42, R45: TX RUN in HELD starts the section and, when it is STOPPED, the group; in RUN it is refused. The time
operand, `now` and the nominal periods in ticks (six to 0.1 µs) are log 1. -/
def Obligations.TxRunStartsSectionAndGroup : Prop :=
  (∀ (s : State) (t : TrunkId) (time : Time), s.Ready ⟨0x14#8, [trunkByte t]⟩ → (s.trunk t).tx.state = .held →
      let g := (s.trunk t).group
      let c := (s.group g).config
      let v := State.modifyTrunk t
        (fun k => { k with tx := { state := .run, firstSent := false, lastSent := Vector.replicate 40 none, line := none,
                                   startDue := false } })
        { s with now := max s.now time }
      let start := fun (state : GroupState) (generator : Option Time) (grace : Option (BitVec 16)) =>
        v.modifyGroup g fun u =>
          { u with
            previous := none, lastLocked := none, meterMaximum := 0#16, origin := .primary, due := none
            state := state, generator := generator, graceTimer := grace }
      exec (.txRun time (trunkByte t)) s = .next (State.replied 0x14#8 [0x00#8] (
        if (s.group g).state ≠ .stopped then v
        else
          match c.primary with
          | none => start .free (some (max s.now time + c.rate.period)) (s.group g).graceTimer
          | some k =>
              if (s.trunk k).rx.state = .aligned then (start .locked none none).writeRecord (.locked g)
              else start .acquiring (some (max s.now time + c.rate.period)) (some c.grace)))) ∧
    (∀ (s : State) (t : TrunkId) (time : Time), s.Ready ⟨0x14#8, [trunkByte t]⟩ → (s.trunk t).tx.state = .run →
      exec (.txRun time (trunkByte t)) s = .next (s.replied 0x14#8 [0x10#8])) ∧
    (∀ (s : State) (time : Time) (a : Byte), 8 ≤ a.toNat → s.Ready ⟨0x14#8, [a]⟩ →
      exec (.txRun time a) s = .next (s.replied 0x14#8 [0x04#8])) ∧
    (Rate.r8000.period = 7500 ∧ Rate.r16000.period = 3750 ∧ Rate.r32000.period = 1875 ∧ Rate.r48000.period = 1250)

/-- R29, R30, R46, R118: TX HOLD, where no boundary is due of a group that the hold leaves without a RUN member. That a
boundary due comes first is log 5. -/
def Obligations.TxHoldStopsTransmitting : Prop :=
  (∀ (s : State) (t : TrunkId), s.Ready ⟨0x15#8, [trunkByte t]⟩ → s.BatchLaw → s.OneEntryEach →
      (s.lastRunMember t = true → (s.group (s.trunk t).group).due = none) →
      ∃ u : State, s.HoldsLeave (s.trunk t).group (· == t) u ∧
        exec (.txHold (trunkByte t)) s = .next (u.replied 0x15#8 [0x00#8])) ∧
    ∀ (s : State) (a : Byte), 8 ≤ a.toNat → s.Ready ⟨0x15#8, [a]⟩ →
      exec (.txHold a) s = .next (s.replied 0x15#8 [0x04#8])

/-- R33: SET MASK writes the pending set, and at once the active set where the section does not run. -/
def Obligations.SetMaskWritesPending : Prop :=
  (∀ (s : State) (t : TrunkId) (m : SlotSet), s.Ready ⟨0x16#8, [trunkByte t, 0#8] ++ slotSetBytes m⟩ →
      (∀ d : SlotId, inSet m d = true → d.val < (s.trunk t).format.length) →
      exec (.setMask (trunkByte t) 0#8 m) s = .next (State.replied 0x16#8 [0x00#8] (s.modifyTrunk t fun k =>
        { k with rxMask := { active := if k.rx.state = .aligned then k.rxMask.active else m, pending := m } }))) ∧
    (∀ (s : State) (t : TrunkId) (m : SlotSet), s.Ready ⟨0x16#8, [trunkByte t, 1#8] ++ slotSetBytes m⟩ →
      (∀ d : SlotId, inSet m d = true → d.val < (s.trunk t).format.length) →
      exec (.setMask (trunkByte t) 1#8 m) s = .next (State.replied 0x16#8 [0x00#8] (s.modifyTrunk t fun k =>
        { k with txMask := { active := if k.tx.state = .run then k.txMask.active else m, pending := m } }))) ∧
    (∀ (s : State) (t : TrunkId) (b : Byte) (m : SlotSet) (d : SlotId), inSet m d = true →
      (s.trunk t).format.length ≤ d.val → s.Ready ⟨0x16#8, [trunkByte t, b] ++ slotSetBytes m⟩ →
      exec (.setMask (trunkByte t) b m) s = .next (s.replied 0x16#8 [0x04#8])) ∧
    ∀ (s : State) (a b : Byte) (m : SlotSet), (8 ≤ a.toNat ∨ 2 ≤ b.toNat) →
      s.Ready ⟨0x16#8, [a, b] ++ slotSetBytes m⟩ → exec (.setMask a b m) s = .next (s.replied 0x16#8 [0x04#8])

/-! ### Timing groups and slip control -/

/-- R41: GROUP MOVE makes a trunk a member of a group; its three checks in order. -/
def Obligations.GroupMoveMovesTrunk : Prop :=
  (∀ (s : State) (t : TrunkId) (g : GroupId), s.Ready ⟨0x21#8, [trunkByte t, groupByte g]⟩ →
      let c := (s.group (s.trunk t).group).config
      exec (.groupMove (trunkByte t) (groupByte g)) s = .next (
        if (s.trunk t).tx.state ≠ .held then s.replied 0x21#8 [0x05#8]
        else if c.primary = some t ∨ c.standby = some t then s.replied 0x21#8 [0x07#8]
        else State.replied 0x21#8 [0x00#8] (s.modifyTrunk t fun k => { k with group := g }))) ∧
    ∀ (s : State) (a b : Byte), (8 ≤ a.toNat ∨ 4 ≤ b.toNat) → s.Ready ⟨0x21#8, [a, b]⟩ →
      exec (.groupMove a b) s = .next (s.replied 0x21#8 [0x04#8])

/-- R43: GROUP SET replaces the record of a STOPPED group; its four checks in order. References are `referenceByte`: the
trunk's number, or 0xFF for FREE and NONE. -/
def Obligations.GroupSetReplacesRecord : Prop :=
  (∀ (s : State) (g : GroupId) (k j : Option TrunkId) (grace : Value) (policy : Policy) (rate : Rate) (limit : Value),
      s.Ready ⟨0x20#8, [groupByte g, referenceByte k, referenceByte j, hiByte grace, loByte grace, policy.byte, rate.byte,
        hiByte limit, loByte limit]⟩ →
      exec (.groupSet (groupByte g) (referenceByte k) (referenceByte j) grace policy.byte rate.byte limit) s = .next (
        if (s.group g).state ≠ .stopped then s.replied 0x20#8 [0x06#8]
        else if ¬(1 ≤ grace.toNat ∧ grace.toNat ≤ 2000) then s.replied 0x20#8 [0x04#8]
        else if (∀ t : TrunkId, k = some t → (s.trunk t).group = g) ∧
            ∀ t : TrunkId, j = some t → (s.trunk t).group = g ∧ k ≠ none ∧ k ≠ some t then
          State.replied 0x20#8 [0x00#8] (s.modifyGroup g fun u =>
            { u with config := { primary := k, standby := j, grace := grace, policy := policy, rate := rate,
                                 longLimit := limit } })
        else s.replied 0x20#8 [0x04#8])) ∧
    (∀ (s : State) (g : GroupId) (a b : Byte) (grace : Value) (c e : Byte) (limit : Value),
      s.Ready ⟨0x20#8, [groupByte g, a, b, hiByte grace, loByte grace, c, e, hiByte limit, loByte limit]⟩ →
      ((s.group g).state ≠ .stopped →
        exec (.groupSet (groupByte g) a b grace c e limit) s = .next (s.replied 0x20#8 [0x06#8])) ∧
        ((s.group g).state = .stopped →
          ((8 ≤ a.toNat ∧ a ≠ 0xFF#8) ∨ (8 ≤ b.toNat ∧ b ≠ 0xFF#8) ∨ 4 ≤ c.toNat ∨ 4 ≤ e.toNat) →
          exec (.groupSet (groupByte g) a b grace c e limit) s = .next (s.replied 0x20#8 [0x04#8]))) ∧
    ∀ (s : State) (x a b : Byte) (grace : Value) (c e : Byte) (limit : Value), 4 ≤ x.toNat →
      s.Ready ⟨0x20#8, [x, a, b, hiByte grace, loByte grace, c, e, hiByte limit, loByte limit]⟩ →
      exec (.groupSet x a b grace c e limit) s = .next (s.replied 0x20#8 [0x04#8])

/-- R61: REVERT takes a group in STANDBY whose primary is ALIGNED to LOCKED, where no boundary of it is due; its checks in
order. -/
def Obligations.RevertReturnsToLocked : Prop :=
  (∀ (s : State) (g : GroupId), s.Ready ⟨0x23#8, [groupByte g]⟩ →
      ((s.group g).state ≠ .standby → exec (.revert (groupByte g)) s = .next (s.replied 0x23#8 [0x10#8])) ∧
        ((s.group g).state = .standby →
          (∀ k : TrunkId, (s.group g).config.primary = some k → (s.trunk k).rx.state ≠ .aligned) →
          exec (.revert (groupByte g)) s = .next (s.replied 0x23#8 [0x08#8])) ∧
        ((s.group g).state = .standby → (s.group g).due = none →
          ∀ k : TrunkId, (s.group g).config.primary = some k → (s.trunk k).rx.state = .aligned →
          exec (.revert (groupByte g)) s = .next (State.replied 0x23#8 [0x00#8]
            (State.writeRecord (.locked g) (State.modifyGroup g
              (fun u => { u with state := .locked, graceTimer := none, generator := none })
              (s.raise (.refChange g))))))) ∧
    ∀ (s : State) (a : Byte), 4 ≤ a.toNat → s.Ready ⟨0x23#8, [a]⟩ →
      exec (.revert a) s = .next (s.replied 0x23#8 [0x04#8])

/-- R64, R81, R137, R153: the four commands that clear: METER CLEAR the meter maximum and the long-frame count, SLIP CLEAR
the counts of one pair or of all eight (0xFF), PLAY FLUSH the playout queue, LOG CLEAR the records. -/
def Obligations.ClearingCommands : Prop :=
  (∀ (s : State) (g : GroupId), s.Ready ⟨0x24#8, [groupByte g]⟩ →
      exec (.meterClear (groupByte g)) s = .next (State.replied 0x24#8 [0x00#8]
        (s.modifyGroup g fun u => { u with meterMaximum := 0#16, longCount := 0#16 }))) ∧
    (∀ (s : State) (a : Byte), 4 ≤ a.toNat → s.Ready ⟨0x24#8, [a]⟩ →
      exec (.meterClear a) s = .next (s.replied 0x24#8 [0x04#8])) ∧
    (∀ (s : State) (g : GroupId) (only : Option TrunkId), s.Ready ⟨0x29#8, [groupByte g, referenceByte only]⟩ →
      ∃ u : State,
        (∀ (g' : GroupId) (t : TrunkId), u.pair g' t =
          if g' = g ∧ (only = none ∨ only = some t) then { s.pair g t with repeats := 0#16, drops := 0#16 }
          else s.pair g' t) ∧
        u = { s with pairs := u.pairs } ∧
        exec (.slipClear (groupByte g) (referenceByte only)) s = .next (u.replied 0x29#8 [0x00#8])) ∧
    (∀ (s : State) (a b : Byte), (4 ≤ a.toNat ∨ (8 ≤ b.toNat ∧ b ≠ 0xFF#8)) → s.Ready ⟨0x29#8, [a, b]⟩ →
      exec (.slipClear a b) s = .next (s.replied 0x29#8 [0x04#8])) ∧
    (∀ s : State, s.Ready ⟨0x49#8, []⟩ →
      exec .playFlush s = .next (State.replied 0x49#8 [0x00#8, natByte s.playout.queue.length]
        { s with playout := { s.playout with queue := [] } })) ∧
    ∀ s : State, s.Ready ⟨0x59#8, []⟩ →
      exec .logClear s = .next (State.replied 0x59#8 [0x00#8, natByte s.log.records.length]
        { s with log := { s.log with records := [] } })

/-- R37, R65, R80: TRUNK STATUS, GROUP STATUS and SLIP STATUS report, in the order and with the bytes of R172; the first
clears the loss count when asked, and nothing else is changed. Items that may be absent are laid out as in log 13 where
R172 leaves it to its mark byte. -/
def Obligations.StatusReports : Prop :=
  (∀ (s : State) (t : TrunkId) (clear : Bool), s.Ready ⟨0x11#8, [trunkByte t, boolByte clear]⟩ →
      let k := s.trunk t
      exec (.trunkStatus (trunkByte t) (boolByte clear)) s = .next (State.replied 0x11#8
        ([0x00#8, natByte k.format.length, k.format.width.byte] ++ bytes2 k.format.idle ++
          [boolByte k.format.keepForced, groupByte k.group, k.rx.state.byte, natByte k.rx.missCount] ++
          bytes2 k.rx.lossCount ++
          [natByte k.store.frames.length, k.tx.state.byte, boolByte k.tx.firstSent] ++
          slotSetBytes k.rxMask.pending ++ slotSetBytes k.txMask.pending)
        (if clear then s.modifyTrunk t fun k => { k with rx := { k.rx with lossCount := 0#16 } } else s))) ∧
    (∀ (s : State) (a b : Byte), (8 ≤ a.toNat ∨ 2 ≤ b.toNat) → s.Ready ⟨0x11#8, [a, b]⟩ →
      exec (.trunkStatus a b) s = .next (s.replied 0x11#8 [0x04#8])) ∧
    (∀ (s : State) (g : GroupId), s.Ready ⟨0x22#8, [groupByte g]⟩ →
      let u := s.group g
      ∃ members running : Byte,
        (∀ t : TrunkId, members.getLsbD t.val = decide ((s.trunk t).group = g)) ∧
        (∀ t : TrunkId, running.getLsbD t.val = decide ((s.trunk t).group = g ∧ (s.trunk t).tx.state = .run)) ∧
        exec (.groupStatus (groupByte g)) s = .next (s.replied 0x22#8
          ([0x00#8, referenceByte u.config.primary, referenceByte u.config.standby] ++ bytes2 u.config.grace ++
            [u.config.policy.byte, u.config.rate.byte] ++ bytes2 u.config.longLimit ++
            [members, running, u.state.byte, u.origin.byte] ++ bytes2 (u.graceTimer.getD 0#16) ++
            optValue u.lastLocked ++ bytes2 u.meterCurrent ++ bytes2 u.meterMaximum ++ bytes2 u.longCount ++
            [if u.state = .degraded then 1#8 else 0#8]))) ∧
    (∀ (s : State) (a : Byte), 4 ≤ a.toNat → s.Ready ⟨0x22#8, [a]⟩ →
      exec (.groupStatus a) s = .next (s.replied 0x22#8 [0x04#8])) ∧
    (∀ (s : State) (g : GroupId) (t : TrunkId), s.Ready ⟨0x28#8, [groupByte g, trunkByte t]⟩ →
      let p := s.pair g t
      let k := s.trunk t
      exec (.slipStatus (groupByte g) (trunkByte t)) s = .next (s.replied 0x28#8
        (0x00#8 :: (bytes2 p.repeats ++ bytes2 p.drops ++ optByte (p.mark.map loByte) ++
          optByte (k.store.frames.getLast?.map fun f => loByte f.seq) ++ [natByte k.store.frames.length] ++
          optByte (p.snapshot.map fun f => loByte f.seq) ++ [k.rx.state.byte])))) ∧
    ∀ (s : State) (a b : Byte), (4 ≤ a.toNat ∨ 8 ≤ b.toNat) → s.Ready ⟨0x28#8, [a, b]⟩ →
      exec (.slipStatus a b) s = .next (s.replied 0x28#8 [0x04#8])

/-- R48, R53: what an entry to HOLDOVER at `entry` leaves. Its first generator boundary is the earliest whole number of
generator periods after the previous boundary that is later than the entry. Times are the model's ticks, six to 0.1 µs
(log 1). -/
def Obligations.HoldoverEntry : Prop :=
  ∀ (s : State) (g : GroupId) (origin : Origin) (entry : Time), (s.group g).lastLocked ≠ some 0#16 →
    (∀ b, (s.group g).previous = some b → b.time ≤ entry) →
    let period :=
      match (s.group g).lastLocked with
      | some v => 6 * v.toNat
      | none => (s.group g).config.rate.period
    ∃ first : Time,
      s.enterHoldover g origin entry =
        State.writeRecord (.holdover g origin) (State.raise (.refLost g) (s.modifyGroup g fun u =>
          { u with
            state := .holdover
            origin := origin
            graceTimer := some u.config.grace
            generator := some first })) ∧
      ((s.group g).previous = none → first = entry + period) ∧
      ∀ b, (s.group g).previous = some b →
        entry < first ∧ first ≤ entry + period ∧ ∃ n : Nat, first = b.time + n * period

/-- R48, R50, R51, R62, R63: the boundary that a frame end of the followed reference has caused, and the generator's,
which places the next one a generator period later; where no start of the group's RUN members is due from the boundary
before. `State.BoundaryLeaves` says what a boundary leaves; when a selection slips is SelectionFollowsLag's. The ticks, six to
0.1 µs, and `now` are log 1; an interval of less than one unit sets no last locked period (log 17), and one that a change of
state lies in sets it as any other (log 26). -/
def Obligations.BoundariesAreTaken : Prop :=
  (∀ (s : State) (g : GroupId) (b : Boundary), s.Settled → (s.group g).due = some b →
      (∀ t : TrunkId, (s.trunk t).runMember g = true → (s.trunk t).tx.startDue = false) →
      ∃ u : State, s.BoundaryLeaves g b u ∧ exec (.groupBoundary g) s = .next u.finish) ∧
    ∀ (s : State) (g : GroupId) (p : Time), s.Settled → (s.group g).generator = some p →
      (∀ t : TrunkId, (s.trunk t).runMember g = true → (s.trunk t).tx.startDue = false) →
      ∃ u : State, State.BoundaryLeaves g { time := p, cause := none } { s with now := max s.now p } u ∧
        exec (.generatorBoundary g) s = .next (State.finish (u.modifyGroup g fun k =>
          { k with generator := some (p +
              if (s.group g).state = .holdover then
                match (s.group g).lastLocked with
                | some v => 6 * v.toNat
                | none => (s.group g).config.rate.period
              else (s.group g).config.rate.period) }))

/-- R70 to R73: the selection of a pair at a boundary, by the receive state, the number of completed frames and the lag; and
that it slips, which raises SLIP, exactly for an ALIGNED source with a mark and a completed frame at lag 0, or 3 or more. -/
def Obligations.SelectionFollowsLag : Prop :=
  ∀ (k : Trunk) (p : Pair),
    let take := fun (q : BitVec 16) =>
      { p with
        mark := some q
        snapshot := (k.store.frames.find? fun f => f.seq == q).map fun f =>
          { seq := f.seq, values := f.values, length := k.format.length, width := k.format.width : Snapshot } }
    (p.slips k = true ↔ k.rx.state = .aligned ∧
      ∃ (older : List Frame) (newest : Frame) (m : BitVec 16), k.store.frames = older ++ [newest] ∧ p.mark = some m ∧
        ((newest.seq - m).toNat = 0 ∨ 3 ≤ (newest.seq - m).toNat)) ∧
      (k.rx.state ≠ .aligned → p.select k = { p with snapshot := none }) ∧
      (k.rx.state = .aligned → k.store.frames = [] → p.mark = none → p.select k = { p with snapshot := none }) ∧
      ∀ (older : List Frame) (newest : Frame), k.rx.state = .aligned → k.store.frames = older ++ [newest] →
        (p.mark = none → older = [] → p.select k = take newest.seq) ∧
          (p.mark = none → older ≠ [] → p.select k = take (newest.seq - 1#16)) ∧
          ∀ m : BitVec 16, p.mark = some m →
            p.select k =
              if (newest.seq - m).toNat = 0 then
                { take m with repeats := BitVec.ofNat 16 (min (p.repeats.toNat + 1) 65535) }
              else if (newest.seq - m).toNat ≤ 2 then take (m + 1#16)
              else
                { take (newest.seq - 1#16) with
                  drops := BitVec.ofNat 16 (min (p.drops.toNat + ((newest.seq - m).toNat - 2)) 65535) }

/-! ### Receive and transmit events -/

/-- R19, R54, R55: a marker in HUNT becomes the candidate, or, one frame length after the candidate, aligns the section and
is reported to the group, which may enter LOCKED or STANDBY; elsewhere a marker is ignored. -/
def Obligations.MarkerAlignsOrBecomesCandidate : Prop :=
  (∀ (s : State) (t : TrunkId) (position : Nat), s.Settled → (s.trunk t).rx.state ≠ .hunt →
      exec (.huntMarker t position) s = .next s.finish) ∧
    (∀ (s : State) (t : TrunkId) (position : Nat), s.Settled → (s.trunk t).rx.state = .hunt →
      (∀ c, (s.trunk t).rx.candidate = some c → position ≠ c + (s.trunk t).format.length * (s.trunk t).format.width.bits) →
      exec (.huntMarker t position) s = .next (State.finish (s.modifyTrunk t fun k =>
        { k with rx := { k.rx with candidate := some position } }))) ∧
    ∀ (s : State) (t : TrunkId) (c : Nat), s.Settled → (s.trunk t).rx.state = .hunt →
      (s.trunk t).rx.candidate = some c →
      let g := (s.trunk t).group
      let u := s.group g
      let v := s.modifyTrunk t fun k =>
        { k with
          rx := { k.rx with state := .aligned, candidate := none, missCount := 0 }
          store := { k.store with filling := some [] } }
      let enter := fun state : GroupState => State.modifyGroup g fun u =>
        { u with state := state, graceTimer := none, generator := none }
      exec (.huntMarker t (c + (s.trunk t).format.length * (s.trunk t).format.width.bits)) s = .next (State.finish (
        if u.config.primary = some t ∧ u.state = .acquiring then State.writeRecord (.locked g) (enter .locked v)
        else if u.config.primary = some t ∧ (u.state = .holdover ∨ u.state = .degraded) then
          State.writeRecord (.locked g) (enter .locked (v.raise (.refChange g)))
        else if u.config.primary ≠ some t ∧ u.config.standby = some t ∧
            ((u.state = .holdover ∧ u.origin = .standby) ∨ u.state = .degraded) then
          State.writeRecord (.standby g) (State.raise (.refChange g) (enter .standby v))
        else v))

/-- R20, R22, R34, R38, R47, R67: a receive frame end, where no boundary of a group that follows the trunk is due, completes
a frame into the store and, from the followed reference, makes a boundary due. A received value has its most significant bit
first on the line, slot 0 at the marker and the slots with no gap. What the line carries is an operand (log 16), and `now`
is log 1. -/
def Obligations.FrameEndCompletesFrame : Prop :=
  ∀ (s : State) (t : TrunkId) (time : Time) (marker : Bool) (line : LineBits), s.Settled →
    (s.trunk t).rx.state = .aligned → (marker = true ∨ (s.trunk t).rx.missCount ≤ 1) →
    ((s.group (s.trunk t).group).follows t = true → (s.group (s.trunk t).group).due = none) →
    ∃ (u : State) (values : List Value), exec (.receiveFrameEnd t time marker line) s = .next u.finish ∧
      values.length = min (s.trunk t).format.length 40 ∧
      (∀ d : SlotId, d.val < (s.trunk t).format.length →
        if inSet (s.trunk t).rxMask.active d then
          let w := (s.trunk t).format.width.bits
          ∃ v : Value, values[d.val]? = some v ∧
            ∀ i : Nat, v.getLsbD i = (decide (i < w) && line.getLsbD (d.val * w + (w - 1 - i)))
        else values[d.val]? = some (s.trunk t).format.idle) ∧
      (∀ t' : TrunkId, u.trunk t' =
        if t' = t then
          { s.trunk t with
            rx := { (s.trunk t).rx with missCount := if marker then 0 else (s.trunk t).rx.missCount + 1 }
            rxMask := { active := (s.trunk t).rxMask.pending, pending := (s.trunk t).rxMask.pending }
            store := {
              filling := some []
              frames := (if (s.trunk t).store.frames.length < 3 then (s.trunk t).store.frames
                         else (s.trunk t).store.frames.drop 1) ++ [{ seq := (s.trunk t).store.next, values := values }]
              next := (s.trunk t).store.next + 1#16 } }
        else s.trunk t') ∧
      (∀ g : GroupId, u.group g =
        if g = (s.trunk t).group ∧
            (((s.group g).state = .locked ∧ (s.group g).config.primary = some t) ∨
              ((s.group g).state = .standby ∧ (s.group g).config.standby = some t)) then
          { s.group g with due := some { time := max s.now time, cause := some t } }
        else s.group g) ∧
      u = { s with
        trunks := u.trunks
        groups := u.groups
        tap := u.tap
        attention := u.attention
        log := u.log
        now := max s.now time }

/-- R128 to R130: at a frame end of the tapped trunk while the tap is ACTIVE, the value stored in the tapped slot is captured
at 16 bits or, with 64 values held, dropped, counted and reported, and the remaining count goes down. Elsewhere the tap is
left. -/
def Obligations.FrameEndCaptures : Prop :=
  ∀ (s : State) (t : TrunkId) (time : Time) (marker : Bool) (line : LineBits), s.Settled →
    (s.trunk t).rx.state = .aligned → (marker = true ∨ (s.trunk t).rx.missCount ≤ 1) →
    ((s.group (s.trunk t).group).follows t = true → (s.group (s.trunk t).group).due = none) →
    ∃ u : State, exec (.receiveFrameEnd t time marker line) s = .next u.finish ∧
      (¬(s.tap.active = true ∧ ∃ source, s.tap.source = some source ∧ source.trunk = t) →
        u.tap = s.tap ∧ u.attention = s.attention ∧ u.log = s.log) ∧
      ∀ (source : FullSlot) (f : Frame), s.tap.active = true → s.tap.source = some source → source.trunk = t →
        source.slot.val < (s.trunk t).format.length → (u.trunk t).store.frames.getLast? = some f →
        let remaining :=
          match s.tap.remaining with
          | .continuous => Remaining.continuous
          | .frames n => .frames (if n = 0#16 then 0#16 else n - 1#16)
        ∃ v : Value, f.values[source.slot.val]? = some v ∧
          (s.tap.queue.length < 64 →
            u.tap =
                { s.tap with
                  queue := s.tap.queue ++ [convert (s.trunk t).format.width .w16 v]
                  remaining := remaining } ∧
              u.attention = s.attention ∧ u.log = s.log) ∧
          (64 ≤ s.tap.queue.length →
            u.tap =
                { s.tap with
                  overflow := if s.tap.overflow = 0xFF#8 then 0xFF#8 else s.tap.overflow + 1#8
                  dropLogged := true
                  remaining := remaining } ∧
              (s.tap.dropLogged = true → u.attention = s.attention.raise .tapOverflow ∧ u.log = s.log) ∧
              (s.tap.dropLogged = false →
                u.attention = (State.writeRecord (.tapOverflow t) (s.raise .tapOverflow)).attention ∧
                  u.log = (State.writeRecord (.tapOverflow t) (s.raise .tapOverflow)).log))

/-- R21, R23, R53, R150: a loss of alignment, where no boundary of a group that follows the trunk is due. Where the
group follows the trunk, it enters HOLDOVER, and the RX_LOSS and HOLDOVER records are written in either order. The order
of the two records is the free value of log 7; `now` is log 1. -/
def Obligations.LossOfAlignment : Prop :=
  ∀ (s : State) (t : TrunkId) (time : Time), s.Settled → (s.trunk t).rx.state = .aligned →
    2 ≤ (s.trunk t).rx.missCount →
    ((s.group (s.trunk t).group).follows t = true → (s.group (s.trunk t).group).due = none) →
    ∃ u : State,
      (∀ t' : TrunkId, u.trunk t' =
        if t' = t then
          { s.trunk t with
            rx := {
              state := .hunt
              candidate := none
              missCount := 0
              lossCount := if (s.trunk t).rx.lossCount = 0xFFFF#16 then 0xFFFF#16 else (s.trunk t).rx.lossCount + 1#16 }
            rxMask := { active := (s.trunk t).rxMask.pending, pending := (s.trunk t).rxMask.pending }
            store := { filling := none, frames := [], next := 0#16 } }
        else s.trunk t') ∧
      (∀ (g : GroupId) (t' : TrunkId), u.pair g t' =
        if t' = t then { s.pair g t' with mark := none } else s.pair g t') ∧
      u = { s with
        trunks := u.trunks
        pairs := u.pairs
        now := max s.now time
        choices := s.choices + 1
        attention := s.attention.raise (.rxLoss t) } ∧
      let g := (s.trunk t).group
      let k := s.group g
      let followed : Option Origin :=
        if k.state = .locked ∧ k.config.primary = some t then some .primary
        else if k.state = .standby ∧ k.config.standby = some t then some .standby
        else none
      match followed with
      | none => exec (.lossOfAlignment t time) s = .next (State.finish (u.writeRecord (.rxLoss t)))
      | some origin =>
          exec (.lossOfAlignment t time) s =
              .next (State.finish (State.enterHoldover g origin (max s.now time) (u.writeRecord (.rxLoss t)))) ∨
            exec (.lossOfAlignment t time) s =
              .next (State.finish (State.writeRecord (.rxLoss t) (u.enterHoldover g origin (max s.now time))))

/-- R28, R38, R39, R84, R85, R91, R117, R138: a transmit frame start activates the mask, applies the trunk's in-flight
entries, giving `v`, and assembles and drives the frame from `v`, giving `u`. The bit clock divides the group's frame period,
in ticks (log 1), by the bits of the frame, and is at least a period of 32.768 MHz, 1875/1024 ticks. On the line, the slots
follow from the marker with no gap, most significant bit first. The slots are taken in ascending order (log 24). -/
def Obligations.TransmitFrameStart : Prop :=
  ∀ (s : State) (t : TrunkId), s.Settled → (s.trunk t).tx.state = .run → (s.trunk t).tx.startDue = true →
    s.BatchLaw → s.OneEntryEach → s.OnePlay →
    ∃ (v u : State) (line : LineFrame), exec (.transmitFrameStart t) s = .next u.finish ∧
      s.InFlightLeft (· == t) v ∧
      (∀ d : FullSlot, v.entry d = if d.trunk = t then s.appliedEntry d else s.entry d) ∧
      (∀ t' : TrunkId, v.trunk t' =
        if t' = t then
          { s.trunk t with
            txMask := { active := (s.trunk t).txMask.pending, pending := (s.trunk t).txMask.pending }
            tx := { (s.trunk t).tx with startDue := false } }
        else s.trunk t') ∧
      v = { s with
        trunks := v.trunks
        map := v.map
        changes := v.changes
        batch := v.batch
        lastBatch := v.lastBatch
        attention := v.attention } ∧
      line.width = (v.trunk t).format.width ∧
      (let g := v.group (v.trunk t).group
       let period :=
         if g.state = .holdover ∨ g.state = .locked ∨ g.state = .standby then
           match g.lastLocked with
           | some x => 6 * x.toNat
           | none => g.config.rate.period
         else g.config.rate.period
       let bits := (v.trunk t).format.length * line.width.bits
       line.clock = if period * 1024 < 1875 * bits then .fastest else .divided period bits) ∧
      (∀ n : Nat, (line.bit n).marker = decide (n = 0)) ∧
      (∀ (d : SlotId) (i : Nat), i < line.width.bits →
        (line.bit (d.val * line.width.bits + i)).data =
          match line.slots[d.val]? with
          | some (some x) => some (x.getLsbD (line.width.bits - 1 - i))
          | some none => none
          | none => none) ∧
      (∀ n : Nat, (v.trunk t).format.length * line.width.bits ≤ n → (line.bit n).data = none) ∧
      line.slots.length = min (v.trunk t).format.length 40 ∧
      (∀ t' : TrunkId, t' ≠ t → u.trunk t' = v.trunk t') ∧
      (u.trunk t =
        { v.trunk t with
          tx := { (v.trunk t).tx with
            firstSent := true
            lastSent := (u.trunk t).tx.lastSent
            line := some line } }) ∧
      (∀ d : SlotId,
        if (v.trunk t).format.length ≤ d.val then (u.trunk t).tx.lastSent[d] = (v.trunk t).tx.lastSent[d]
        else
          match v.slotOutcome t d with
          | .undriven =>
              line.slots[d.val]? = some none ∧ (u.trunk t).tx.lastSent[d] = (v.trunk t).tx.lastSent[d]
          | .value x => line.slots[d.val]? = some (some x) ∧ (u.trunk t).tx.lastSent[d] = some x
          | .playout =>
              match v.playout.queue with
              | x :: rest =>
                  line.slots[d.val]? = some (some (convert .w16 (v.trunk t).format.width x)) ∧
                    (u.trunk t).tx.lastSent[d] = some (convert .w16 (v.trunk t).format.width x) ∧
                    u.playout = { v.playout with queue := rest } ∧ u.attention = v.attention ∧ u.log = v.log
              | [] =>
                  let x := ((v.trunk t).tx.lastSent[d]).getD (v.trunk t).format.idle
                  line.slots[d.val]? = some (some x) ∧ (u.trunk t).tx.lastSent[d] = some x ∧
                    u.playout =
                      { v.playout with
                        underruns := if v.playout.underruns = 0xFFFF#16 then 0xFFFF#16 else v.playout.underruns + 1#16
                        episode := true } ∧
                    if v.playout.episode then u.attention = v.attention ∧ u.log = v.log
                    else
                      u.attention = (State.writeRecord (.playUnderrun t) (v.raise .playEmpty)).attention ∧
                        u.log = (State.writeRecord (.playUnderrun t) (v.raise .playEmpty)).log) ∧
      ((∀ d : SlotId, d.val < (v.trunk t).format.length → v.slotOutcome t d ≠ .playout) →
        u.playout = v.playout ∧ u.attention = v.attention ∧ u.log = v.log) ∧
      u = { v with trunks := u.trunks, playout := u.playout, attention := u.attention, log := u.log }

/-- R85 to R90: what a slot is assembled from, by the first test that applies. The policy is read at the start (log 25), and
the idle value for a source slot that a snapshot's values lack, which no run reaches, is log 18. -/
def Obligations.SlotOutcomeByFirstTest : Prop :=
  ∀ (s : State) (t : TrunkId) (d : SlotId),
    let k := s.trunk t
    let g := s.group k.group
    let held := (k.tx.lastSent[d]).getD k.format.idle
    s.slotOutcome t d =
      if inSet k.txMask.active d = false then .undriven
      else if g.state = .degraded ∧ g.config.policy = .mute then .value k.format.idle
      else if g.state = .degraded ∧ g.config.policy = .hold then .value held
      else
        match s.entry ⟨t, d⟩ with
        | .opened => .value k.format.idle
        | .force v => .value v
        | .hold => .value held
        | .play => .playout
        | .link source =>
            match (s.pair k.group source.trunk).snapshot with
            | none => .value k.format.idle
            | some f =>
                if f.length ≤ source.slot.val then .value k.format.idle
                else .value ((f.values[source.slot.val]?.map (convert f.width k.format.width)).getD k.format.idle)

/-- R56, R155, R162: a millisecond step advances the uptime, every running grace timer and the gap count. -/
def Obligations.MillisecondStepAdvancesTimers : Prop :=
  ∀ s : State, s.Settled →
    ∃ u : State,
      (∀ g : GroupId, u.group g =
        { s.group g with
          graceTimer := (s.group g).graceTimer.map fun n => if n = 0#16 then 0#16 else n - 1#16 }) ∧
      u = { s with
        uptime := s.uptime + 1#32
        groups := u.groups
        link := { s.link with receiver := { s.link.receiver with gap := s.link.receiver.gap.map fun n => n + 1 } } } ∧
      exec .millisecondStep s = .next u.finish

/-- R57, R59: the grace expiry takes the first of its three cases. The STOP cascade takes the members in ascending order
(log 11). -/
def Obligations.GraceExpiryTakesFirstCase : Prop :=
  ∀ (s : State) (g : GroupId), s.Settled → ((s.group g).state = .acquiring ∨ (s.group g).state = .holdover) →
    (s.group g).graceTimer = some 0#16 → s.TimingLaw → s.BatchLaw → s.OneEntryEach →
    let v := s.modifyGroup g fun u => { u with graceTimer := none }
    let c := (s.group g).config
    let standbyReady := ∃ j : TrunkId, c.standby = some j ∧ (s.trunk j).rx.state = .aligned
    ((s.group g).origin = .primary ∧ standbyReady →
        exec (.graceExpiry g) s = .next (State.finish (State.writeRecord (.standby g) (State.raise (.refChange g)
          (v.modifyGroup g fun u => { u with state := .standby, generator := none }))))) ∧
      (¬((s.group g).origin = .primary ∧ standbyReady) → c.policy = .stop →
        ∃ u : State, v.HoldsLeave g (fun t => (s.trunk t).runMember g) u ∧ (u.group g).state = .stopped ∧
          exec (.graceExpiry g) s = .next (State.finish (State.writeRecord (.policyStop g) (u.raise (.degraded g))))) ∧
      (¬((s.group g).origin = .primary ∧ standbyReady) → c.policy ≠ .stop →
        exec (.graceExpiry g) s = .next (State.finish (State.writeRecord (.degraded g) (State.raise (.degraded g)
          (v.modifyGroup g fun u => { u with state := .degraded })))))

/-! ### Connection map and change list -/

/-- R93, R100, R101: MAP READ reports the entries of a range of slots, in the ACTIVE or the PROJECTED view; and the projected
entry of a destination is its staged entry, else its in-flight entry, else its active entry, with that layer. -/
def Obligations.MapReadReportsEntries : Prop :=
  (∀ (s : State) (view trunk first count : Byte) (t : TrunkId),
      (trunk = trunkByte t ∨ (trunk = 0xFF#8 ∧ t = s.link.contextDestination)) →
      view.toNat ≤ 1 → 1 ≤ count.toNat → count.toNat ≤ 20 → first.toNat < (s.trunk t).format.length →
      s.Ready ⟨0x3A#8, [view, trunk, first, count]⟩ →
      let slots := (List.finRange 40).filter fun d : SlotId =>
        decide (first.toNat ≤ d.val ∧ d.val < first.toNat + count.toNat ∧ d.val < (s.trunk t).format.length)
      let entry := fun (d : SlotId) (e : MapEntry) =>
        [natByte d.val, e.modeByte] ++ e.sourceBytes ++ e.forceBytes
      exec (.mapRead view trunk first count) s = .next (s.replied 0x3A#8
        ([0x00#8, trunkByte t, natByte slots.length] ++ slots.flatMap fun d =>
          if view = 0#8 then entry d (s.entry ⟨t, d⟩) ++ optValue (s.trunk t).tx.lastSent[d]
          else entry d (s.projected ⟨t, d⟩) ++ [(s.projectedLayer ⟨t, d⟩).2.byte]))) ∧
    (∀ (s : State) (view trunk first count : Byte),
      (2 ≤ view.toNat ∨ (8 ≤ trunk.toNat ∧ trunk ≠ 0xFF#8) ∨ count = 0#8 ∨ 21 ≤ count.toNat ∨
        ∃ t : TrunkId, (trunk = trunkByte t ∨ (trunk = 0xFF#8 ∧ t = s.link.contextDestination)) ∧
          (s.trunk t).format.length ≤ first.toNat) →
      s.Ready ⟨0x3A#8, [view, trunk, first, count]⟩ →
      exec (.mapRead view trunk first count) s = .next (s.replied 0x3A#8 [0x04#8])) ∧
    ∀ (s : State) (d : FullSlot),
      (∀ c ∈ s.changes, s.OneEntryEach → c.destination = d → c.batch = none → s.projectedLayer d = (c.entry, .staged)) ∧
        ((∀ c ∈ s.changes, c.destination = d → c.batch ≠ none) →
          ((∀ c ∈ s.changes, c.destination ≠ d) → s.projectedLayer d = (s.entry d, .active)) ∧
            ∀ c ∈ s.changes, s.OneEntryEach → c.destination = d → s.projectedLayer d = (c.entry, .inFlight)) ∧
        s.projected d = (s.projectedLayer d).1

/-- R103 to R109: a staging command that passes checks 1 and 2 replaces the destination's staged entry in its place, or is
appended when the list has room, and is otherwise refused with LIST_FULL. -/
def Obligations.StagingPlacesEntry : Prop :=
  ∀ (i : Instr) (r : Request) (s : State) (d : FullSlot) (e : MapEntry), encodeRequest i = some r → s.Ready r →
    s.PassesStaging i d e →
    let staged := fun c : Change => c.batch = none ∧ c.destination = d
    (∀ (older newer : List Change) (c : Change), s.changes = older ++ c :: newer → staged c →
        (∀ x ∈ older, ¬staged x) →
        exec i s = .next (State.replied r.code
          [0x00#8, trunkByte d.trunk, natByte d.slot.val, natByte older.length, 1#8]
          { s with changes := older ++ { destination := d, entry := e, batch := none } :: newer })) ∧
      ((∀ x ∈ s.changes, ¬staged x) → s.changes.length < 64 →
        exec i s = .next (State.replied r.code
          [0x00#8, trunkByte d.trunk, natByte d.slot.val, natByte s.changes.length, 0#8]
          { s with changes := s.changes ++ [{ destination := d, entry := e, batch := none }] })) ∧
      ((∀ x ∈ s.changes, ¬staged x) → 64 ≤ s.changes.length → exec i s = .next (s.replied r.code [0x0B#8]))

/-- R3, R95, R98, R104, R107: the refusals of the staging commands by checks 1 and 2. -/
def Obligations.StagingRefusals : Prop :=
  (∀ (s : State) (r : SlotRef), (¬∃ d, s.DestinationIs r d) →
      (∀ q : SlotRef, s.Ready ⟨0x30#8, r.bytes ++ q.bytes⟩ →
        exec (.stageLink r q) s = .next (s.replied 0x30#8 [0x04#8])) ∧
        (s.Ready ⟨0x31#8, r.bytes⟩ → exec (.stageOpen r) s = .next (s.replied 0x31#8 [0x04#8])) ∧
        (∀ v : Value, s.Ready ⟨0x32#8, r.bytes ++ bytes2 v⟩ →
          exec (.stageForce r v) s = .next (s.replied 0x32#8 [0x04#8])) ∧
        (s.Ready ⟨0x33#8, r.bytes⟩ → exec (.stageHold r) s = .next (s.replied 0x33#8 [0x04#8])) ∧
        (s.Ready ⟨0x34#8, r.bytes⟩ → exec (.stagePlay r) s = .next (s.replied 0x34#8 [0x04#8]))) ∧
    (∀ (s : State) (r q : SlotRef), (¬∃ d, s.SourceIs q d) → s.Ready ⟨0x30#8, r.bytes ++ q.bytes⟩ →
      exec (.stageLink r q) s = .next (s.replied 0x30#8 [0x04#8])) ∧
    (∀ (s : State) (r : SlotRef) (v : Value) (d : FullSlot), s.DestinationIs r d →
      (s.trunk d.trunk).format.width = .w8 → 256 ≤ v.toNat → s.Ready ⟨0x32#8, r.bytes ++ bytes2 v⟩ →
      exec (.stageForce r v) s = .next (s.replied 0x32#8 [0x04#8])) ∧
    (∀ (s : State) (r q : SlotRef) (d source : FullSlot), s.DestinationIs r d → s.SourceIs q source →
      s.projected d ≠ .link source → 12 ≤ s.fanout source → s.Ready ⟨0x30#8, r.bytes ++ q.bytes⟩ →
      exec (.stageLink r q) s = .next (s.replied 0x30#8 [0x09#8])) ∧
    ∀ (s : State) (r : SlotRef) (d d' : FullSlot), s.DestinationIs r d → d' ≠ d → s.PlayIn d' →
      s.Ready ⟨0x34#8, r.bytes⟩ → exec (.stagePlay r) s = .next (s.replied 0x34#8 [0x0A#8])

/-- R96, R103, R110, R111: UNSTAGE removes one staged entry, unless its removal would give a source more than twelve links
in the projected map; DISCARD removes them all. -/
def Obligations.UnstageAndDiscard : Prop :=
  (∀ (s : State) (r : SlotRef), s.Ready ⟨0x35#8, r.bytes⟩ →
      ((¬∃ d, s.DestinationIs r d) → exec (.unstage r) s = .next (s.replied 0x35#8 [0x04#8])) ∧
        ∀ d : FullSlot, s.DestinationIs r d →
          ((∀ c ∈ s.changes, c.destination = d → c.batch ≠ none) →
            exec (.unstage r) s = .next (s.replied 0x35#8 [0x11#8])) ∧
          ∀ (older newer : List Change) (c : Change), s.changes = older ++ c :: newer → s.OneEntryEach →
            c.destination = d → c.batch = none →
            let v := { s with changes := older ++ newer }
            ((∃ source, v.projected d = .link source ∧ c.entry ≠ .link source ∧ 12 < v.fanout source) →
              exec (.unstage r) s = .next (s.replied 0x35#8 [0x09#8])) ∧
            ((∀ source, v.projected d = .link source → c.entry ≠ .link source → v.fanout source ≤ 12) →
              exec (.unstage r) s = .next (State.replied 0x35#8
                [0x00#8, natByte ((older ++ newer).countP fun c => c.batch.isNone)] v))) ∧
    ∀ s : State, s.Ready ⟨0x36#8, []⟩ →
      exec .discard s = .next (State.replied 0x36#8 [0x00#8, natByte (s.changes.countP fun c => c.batch.isNone)]
        { s with changes := s.changes.filter fun c => c.batch.isSome })

/-- R114, R115, R116: COMMIT puts every staged entry in flight as one batch and applies at once those whose destination
trunk's transmit section is HELD; when that is all of them, the batch completes. -/
def Obligations.CommitPutsInFlight : Prop :=
  ∀ s : State, s.Ready ⟨0x37#8, []⟩ → s.BatchLaw → s.OneEntryEach →
    (s.batch ≠ none → exec .commit s = .next (s.replied 0x37#8 [0x0C#8])) ∧
      (s.batch = none → s.changes = [] → exec .commit s = .next (s.replied 0x37#8 [0x0D#8])) ∧
      (s.batch = none → s.changes ≠ [] →
        let running := fun c : Change => !decide ((s.trunk c.destination.trunk).tx.state = .held)
        let count := s.changes.length
        let left := s.changes.countP running
        ∃ u : State,
          exec .commit s = .next (State.replied 0x37#8
            [0x00#8, s.nextBatch, natByte count, natByte (count - left)] u) ∧
          u.changes = (s.changes.filter running).map (fun c => { c with batch := some s.nextBatch }) ∧
          (∀ d : FullSlot, (∀ c ∈ s.changes, c.destination ≠ d) → u.entry d = s.entry d) ∧
          (∀ c ∈ s.changes, u.entry c.destination = if running c then s.entry c.destination else c.entry) ∧
          u.nextBatch = (if s.nextBatch = 255#8 then 1#8 else s.nextBatch + 1#8) ∧
          (if left = 0 then
            u.batch = none ∧ u.lastBatch = some { id := s.nextBatch, applied := count } ∧
              u.attention = s.attention.raise .batchDone
          else
            u.batch = some { id := s.nextBatch, count := count, remaining := left } ∧ u.lastBatch = s.lastBatch ∧
              u.attention = s.attention) ∧
          u = { s with
            map := u.map
            changes := u.changes
            batch := u.batch
            lastBatch := u.lastBatch
            nextBatch := u.nextBatch
            attention := u.attention })

/-- R94, R113: the projected map is unchanged by COMMIT and by the application of in-flight entries at a transmit frame
start. -/
def Obligations.ApplicationKeepsProjectedMap : Prop :=
  ∀ (s : State) (i : Instr), s.BatchLaw → s.OneEntryEach → (i = .commit ∨ ∃ t, i = .transmitFrameStart t) →
    ∃ u : State, exec i s = .next u ∧ ∀ d : FullSlot, u.projected d = s.projected d

/-- R122, R123: BATCH STATUS and LIST READ report and change nothing. The mark byte of an absent batch record is log 13. -/
def Obligations.BatchAndListReports : Prop :=
  (∀ s : State, s.Ready ⟨0x38#8, []⟩ →
      exec .batchStatus s = .next (s.replied 0x38#8 (
        (match s.batch with
          | some b => [0x00#8, 1#8, 0#8, b.id, 0#8, natByte b.count, 0#8, natByte b.remaining]
          | none => [0x00#8, 0#8, 1#8, 0#8, 1#8, 0#8, 1#8, 0#8]) ++
        (match s.lastBatch with
          | some b => [0#8, b.id, natByte b.applied]
          | none => [1#8, 0#8, 0#8]) ++
        [natByte (s.changes.countP fun c => c.batch.isNone), natByte s.changes.length, s.nextBatch]))) ∧
    (∀ (s : State) (first count : Byte), first.toNat ≤ 63 → 1 ≤ count.toNat → count.toNat ≤ 16 →
      s.Ready ⟨0x39#8, [first, count]⟩ →
      let part := (s.changes.drop first.toNat).take count.toNat
      exec (.listRead first count) s = .next (s.replied 0x39#8
        ([0x00#8, natByte s.changes.length, natByte part.length] ++
          (part.mapIdx fun n c =>
            [natByte (first.toNat + n), trunkByte c.destination.trunk, natByte c.destination.slot.val, c.entry.modeByte] ++
              c.entry.sourceBytes ++ c.entry.forceBytes ++
              (match c.batch with
                | some id => [1#8, id]
                | none => [2#8, 0#8])).flatten))) ∧
    ∀ (s : State) (first count : Byte), (64 ≤ first.toNat ∨ count = 0#8 ∨ 17 ≤ count.toNat) →
      s.Ready ⟨0x39#8, [first, count]⟩ → exec (.listRead first count) s = .next (s.replied 0x39#8 [0x04#8])

/-! ### Capture tap and playout queue -/

/-- R127, R130, R132: TAP START begins a run, TAP STOP ends it, and a run whose remaining count has reached 0 ends by
itself. That the end of a run follows at once on its last frame end is log 4, and that TAP STOP keeps the remaining count is
log 27. -/
def Obligations.TapRuns : Prop :=
  (∀ (s : State) (r : SlotRef) (count : Value), s.Ready ⟨0x40#8, r.bytes ++ bytes2 count⟩ →
      ((¬∃ d, s.SourceIs r d) → exec (.tapStart r count) s = .next (s.replied 0x40#8 [0x04#8])) ∧
        ∀ d : FullSlot, s.SourceIs r d →
          exec (.tapStart r count) s = .next (
            if s.tap.active then s.replied 0x40#8 [0x0F#8]
            else
              State.replied 0x40#8 [0x00#8, trunkByte d.trunk, natByte d.slot.val]
                { s with tap := {
                    active := true
                    source := some d
                    remaining := if count = 0#16 then .continuous else .frames count
                    queue := []
                    overflow := 0#8
                    dropLogged := false } })) ∧
    (∀ s : State, s.Ready ⟨0x41#8, []⟩ →
      exec .tapStop s = .next (
        if s.tap.active then
          State.replied 0x41#8
            ((match s.tap.remaining with
              | .continuous => [0x00#8, 1#8, 0#8, 0#8]
              | .frames n => [0x00#8, 0#8] ++ bytes2 n) ++ [natByte s.tap.queue.length])
            { s with tap := { s.tap with active := false } }
        else s.replied 0x41#8 [0x10#8])) ∧
    ∀ s : State, s.inReset = false → s.tap.active = true → s.tap.remaining = .frames 0#16 →
      exec .tapRunEnd s = .next (State.finish (State.raise .tapDone { s with tap := { s.tap with active := false } }))

/-- R133, R152: TAP READ and LOG READ remove the oldest values and records, and report them. The mark byte of an absent
tapped source is log 13. -/
def Obligations.ReadsRemoveOldest : Prop :=
  (∀ (s : State) (n : Byte), 1 ≤ n.toNat → n.toNat ≤ 16 → s.Ready ⟨0x42#8, [n]⟩ →
      exec (.tapRead n) s = .next (State.replied 0x42#8
        ([0x00#8, boolByte s.tap.active] ++ optSlot s.tap.source ++
          (match s.tap.remaining with
            | .continuous => [1#8, 0#8, 0#8]
            | .frames k => 0#8 :: bytes2 k) ++
          [s.tap.overflow, natByte (min n.toNat s.tap.queue.length)] ++ (s.tap.queue.take n.toNat).flatMap bytes2 ++
          [natByte (s.tap.queue.length - n.toNat)])
        { s with tap := { s.tap with queue := s.tap.queue.drop n.toNat } })) ∧
    (∀ (s : State) (n : Byte), (n = 0#8 ∨ 17 ≤ n.toNat) → s.Ready ⟨0x42#8, [n]⟩ →
      exec (.tapRead n) s = .next (s.replied 0x42#8 [0x04#8])) ∧
    (∀ (s : State) (n : Byte), 1 ≤ n.toNat → n.toNat ≤ 8 → s.Ready ⟨0x58#8, [n]⟩ →
      exec (.logRead n) s = .next (State.replied 0x58#8
        ([0x00#8, natByte (min n.toNat s.log.records.length)] ++
          ((s.log.records.take n.toNat).flatMap fun r => bytes2 r.seq ++ r.event.bytes ++ bytes4 r.time) ++
          [natByte (s.log.records.length - n.toNat)] ++ bytes2 s.log.next ++ bytes4 s.uptime)
        { s with log := { s.log with records := s.log.records.drop n.toNat } })) ∧
    ∀ (s : State) (n : Byte), (n = 0#8 ∨ 9 ≤ n.toNat) → s.Ready ⟨0x58#8, [n]⟩ →
      exec (.logRead n) s = .next (s.replied 0x58#8 [0x04#8])

/-- R136, R139, R140: PLAY LOAD appends what the queue has room for, and an accepted value closes the episode; PLAY STATUS
reports the queue and the PLAY destinations, and clears the underrun count when asked. The mark byte of an absent slot is
log 13. -/
def Obligations.PlayoutCommands : Prop :=
  (∀ (s : State) (values : List Value), 1 ≤ values.length → values.length ≤ 32 →
      s.Ready ⟨0x48#8, natByte values.length :: values.flatMap bytes2⟩ →
      let accepted := min values.length (64 - s.playout.queue.length)
      exec (.playLoad values) s = .next (State.replied 0x48#8
        [if accepted = values.length then 0x00#8 else 0x01#8, natByte accepted,
          natByte (s.playout.queue.length + accepted)]
        { s with playout := { s.playout with
            queue := s.playout.queue ++ values.take accepted
            episode := if accepted = 0 then s.playout.episode else false } })) ∧
    (∀ (s : State) (values : List Value), (values = [] ∨ 33 ≤ values.length) →
      s.Ready ⟨0x48#8, natByte values.length :: values.flatMap bytes2⟩ →
      exec (.playLoad values) s = .next (s.replied 0x48#8 [0x04#8])) ∧
    (∀ (s : State) (clear : Bool), s.OnePlay → s.Ready ⟨0x4A#8, [boolByte clear]⟩ →
      ∃ active projected : Option FullSlot,
        (∀ d : FullSlot, active = some d ↔ s.entry d = .play) ∧
        (∀ d : FullSlot, projected = some d ↔ s.projected d = .play) ∧
        exec (.playStatus (boolByte clear)) s = .next (State.replied 0x4A#8
          ([0x00#8, natByte s.playout.queue.length] ++ bytes2 s.playout.underruns ++ [boolByte s.playout.episode] ++
            optSlot active ++ optSlot projected)
          (if clear then { s with playout := { s.playout with underruns := 0#16 } } else s))) ∧
    ∀ (s : State) (c : Byte), 2 ≤ c.toNat → s.Ready ⟨0x4A#8, [c]⟩ →
      exec (.playStatus c) s = .next (s.replied 0x4A#8 [0x04#8])

/-! ### Attention unit and fault log -/

/-- R144, R145, R146, R148, R149: ATTENTION READ reports the unit, ACK clears the named sources with their sets, and
ATTENTION MASK replaces the mask and asks for a notice when it makes a source pending. The eight bytes of the set in the
reply to ACK are log 14. -/
def Obligations.AttentionCommands : Prop :=
  (∀ s : State, s.Ready ⟨0x50#8, []⟩ →
      let a := s.attention
      exec .attentionRead s = .next (s.replied 0x50#8
        (0x00#8 :: (bytes2 (a.flags.setWidth 16) ++ [a.rxLoss, a.refLost.setWidth 8, a.refChange.setWidth 8,
          a.degraded.setWidth 8, a.slip.setWidth 8, a.longFrame.setWidth 8] ++ bytes2 (a.mask.setWidth 16) ++
          [if ∃ n : Fin 12, a.flags.getLsbD n.val = true ∧ a.mask.getLsbD n.val = true then 1#8 else 0#8,
            boolByte a.noticeWaiting])))) ∧
    (∀ (s : State) (sources : Value), sources.toNat < 4096 → s.Ready ⟨0x51#8, bytes2 sources⟩ →
      ∃ a : Attention,
        (∀ n : Fin 12, a.flags.getLsbD n.val = (s.attention.flags.getLsbD n.val && !sources.getLsbD n.val)) ∧
        a.rxLoss = (if sources.getLsbD 0 then 0#8 else s.attention.rxLoss) ∧
        a.refLost = (if sources.getLsbD 1 then 0#4 else s.attention.refLost) ∧
        a.refChange = (if sources.getLsbD 2 then 0#4 else s.attention.refChange) ∧
        a.degraded = (if sources.getLsbD 3 then 0#4 else s.attention.degraded) ∧
        a.slip = (if sources.getLsbD 4 then 0#4 else s.attention.slip) ∧
        a.longFrame = (if sources.getLsbD 5 then 0#4 else s.attention.longFrame) ∧
        a.mask = s.attention.mask ∧ a.noticeWaiting = s.attention.noticeWaiting ∧
        exec (.ack sources) s = .next (State.replied 0x51#8
          (0x00#8 :: (bytes2 (a.flags.setWidth 16) ++ [a.rxLoss, a.refLost.setWidth 8, a.refChange.setWidth 8,
            a.degraded.setWidth 8, a.slip.setWidth 8, a.longFrame.setWidth 8]))
          { s with attention := a })) ∧
    (∀ (s : State) (sources : Value), sources.toNat < 4096 → s.Ready ⟨0x52#8, bytes2 sources⟩ →
      exec (.attentionMask sources) s = .next (State.replied 0x52#8 (0x00#8 :: bytes2 sources)
        { s with attention := { s.attention with
            mask := sources.setWidth 12
            noticeWaiting := s.attention.noticeWaiting ||
              decide (∃ n : Fin 12, s.attention.flags.getLsbD n.val = true ∧ sources.getLsbD n.val = true ∧
                s.attention.mask.getLsbD n.val = false) } })) ∧
    ∀ (s : State) (sources : Value), 4096 ≤ sources.toNat →
      (s.Ready ⟨0x51#8, bytes2 sources⟩ → exec (.ack sources) s = .next (s.replied 0x51#8 [0x04#8])) ∧
        (s.Ready ⟨0x52#8, bytes2 sources⟩ → exec (.attentionMask sources) s = .next (s.replied 0x52#8 [0x04#8]))

/-- R143, R145, R146, R151: raising a source sets its flag and adds the trunk or group it names, asks for a notice exactly
when that makes the source pending, and leaves the rest; the line is asserted exactly when an enabled source is set. A record
takes the log sequence counter and the uptime; it is appended, or, with 16 records held, replaces the oldest and raises
LOG_WRAP. -/
def Obligations.RaisingsAndRecords : Prop :=
  (∀ (a : Attention) (r : Raising),
      let b := a.raise r
      let n := r.source
      (∀ m : Fin 12, b.flags.getLsbD m.val = (a.flags.getLsbD m.val || decide (m = n))) ∧
        (∀ t : TrunkId, b.rxLoss.getLsbD t.val = (a.rxLoss.getLsbD t.val || decide (r = .rxLoss t))) ∧
        (∀ g : GroupId,
          b.refLost.getLsbD g.val = (a.refLost.getLsbD g.val || decide (r = .refLost g)) ∧
            b.refChange.getLsbD g.val = (a.refChange.getLsbD g.val || decide (r = .refChange g)) ∧
            b.degraded.getLsbD g.val = (a.degraded.getLsbD g.val || decide (r = .degraded g)) ∧
            b.slip.getLsbD g.val = (a.slip.getLsbD g.val || decide (r = .slip g)) ∧
            b.longFrame.getLsbD g.val = (a.longFrame.getLsbD g.val || decide (r = .longFrame g))) ∧
        b.mask = a.mask ∧
        (b.noticeWaiting = true ↔
          a.noticeWaiting = true ∨ (a.mask.getLsbD n.val = true ∧ a.flags.getLsbD n.val = false))) ∧
    (∀ s : State, s.attentionLine = true ↔
      ∃ n : Fin 12, s.attention.flags.getLsbD n.val = true ∧ s.attention.mask.getLsbD n.val = true) ∧
    ∀ (s : State) (e : LogEvent),
      let r : LogRecord := { seq := s.log.next, event := e, time := s.uptime }
      (s.log.records.length < 16 →
          s.writeRecord e = { s with log := { records := s.log.records ++ [r], next := s.log.next + 1#16 } }) ∧
        ∀ (oldest : LogRecord) (rest : List LogRecord), s.log.records = oldest :: rest → rest.length = 15 →
          s.writeRecord e =
            { s with
              log := { records := rest ++ [r], next := s.log.next + 1#16 }
              attention := s.attention.raise .logWrap }

/-! ### What comes before a command -/

/-- The end of a tap run, the message-complete event and the inter-byte timeout, when due, come before any other
command, a boundary that is due comes before the next frame end, the loss or the hold of the reference it follows,
before the TX HOLD that stops its group and before REVERT, and a transmit frame start that is due comes before the next
boundary: the model's reading, logs 4, 5 and 6. -/
def Obligations.DueEventsComeFirst : Prop :=
  (∀ (i : Instr) (s : State), i.wellFormed = true → s.inReset = false → i ≠ .tapRunEnd → i ≠ .messageComplete →
      i ≠ .interByteTimeout → i ≠ .powerOn → i ≠ .resetInputAsserted → (∀ strap, i ≠ .startUp strap) →
      s.settle.Settled ∧ exec i s = exec i s.settle) ∧
    (∀ (s u : State) (t : TrunkId) (time : Time) (marker : Bool) (line : LineBits), s.Settled →
      (s.group (s.trunk t).group).due ≠ none → (s.group (s.trunk t).group).follows t = true →
      exec (.groupBoundary (s.trunk t).group) s = .next u →
      ((s.trunk t).rx.state = .aligned → (marker = true ∨ (s.trunk t).rx.missCount ≤ 1) →
        exec (.receiveFrameEnd t time marker line) s = exec (.receiveFrameEnd t time marker line) u) ∧
        ((s.trunk t).rx.state = .aligned → 2 ≤ (s.trunk t).rx.missCount →
          exec (.lossOfAlignment t time) s = exec (.lossOfAlignment t time) u)) ∧
    (∀ (s u : State) (t : TrunkId) (time : Time), (s.group (s.trunk t).group).due ≠ none →
      (s.Ready ⟨0x13#8, [trunkByte t]⟩ → (s.group (s.trunk t).group).follows t = true →
        exec (.groupBoundary (s.trunk t).group) (s.buffered ⟨0x13#8, [trunkByte t]⟩) = .next u →
        exec (.rxHold time (trunkByte t)) s = exec (.rxHold time (trunkByte t)) u) ∧
        (s.Ready ⟨0x15#8, [trunkByte t]⟩ → s.lastRunMember t = true →
          exec (.groupBoundary (s.trunk t).group) (s.buffered ⟨0x15#8, [trunkByte t]⟩) = .next u →
          exec (.txHold (trunkByte t)) s = exec (.txHold (trunkByte t)) u)) ∧
    (∀ (s u : State) (g : GroupId), (s.group g).due ≠ none → (s.group g).state = .standby →
      s.primaryAligned g = true → s.Ready ⟨0x23#8, [groupByte g]⟩ →
      exec (.groupBoundary g) (s.buffered ⟨0x23#8, [groupByte g]⟩) = .next u →
      exec (.revert (groupByte g)) s = exec (.revert (groupByte g)) u) ∧
    ∀ (s u : State) (g : GroupId) (t : TrunkId), s.Settled → (s.trunk t).runMember g = true →
      (s.trunk t).tx.startDue = true →
      (∀ t' : TrunkId, t' < t → (s.trunk t').runMember g = true → (s.trunk t').tx.startDue = false) →
      exec (.transmitFrameStart t) s = .next u →
      ((s.group g).due ≠ none → exec (.groupBoundary g) s = exec (.groupBoundary g) u) ∧
        ((s.group g).generator ≠ none → exec (.generatorBoundary g) s = exec (.generatorBoundary g) u)

/-! ### Encodings -/

/-- R163, R171, R172: the request that a row stands for is taken by that row, whatever its operands; and every request of
a message stands for exactly such a row. `takenAt` gives RX HOLD and TX RUN the time at which they are taken. The time
operand is log 1. -/
def Obligations.RequestsRoundTrip : Prop :=
  (∀ (time : Time) (i : Instr) (r : Request), i.wellFormed = true → encodeRequest i = some r →
      decodeRequest time r = some (i.takenAt time)) ∧
    ∀ (time : Time) (r : Request), r.payload.length ≤ 200 →
      ∃ i : Instr, decodeRequest time r = some i ∧ i.wellFormed = true ∧ encodeRequest i = some r

/-! ### Laws that every step keeps -/

/-- R8, R12, R23, R32, R42, R43, R44, R53, R66, R69, R82, R84, R95, R98, R102, R103, R112, R119, R126, R135, R142, R150,
R165: every law holds at reset. The model's clock is log 1. -/
def Obligations.LawsHoldAtReset : Prop :=
  State.reset.Bounded ∧ State.reset.FlagsMatchSets ∧ State.reset.OutgoingLaw ∧ State.reset.TimingLaw ∧
    State.reset.FollowLaw ∧ State.reset.MarkLaw ∧ State.reset.StoreLaw ∧ State.reset.OneEntryEach ∧
    State.reset.BatchLaw ∧ State.reset.FlightLaw ∧ State.reset.SlotLaw ∧ State.reset.MaskLaw ∧ State.reset.OnePlay ∧
    State.reset.FanoutLaw ∧ State.reset.ValueLaw ∧ State.reset.ClockLaw

/-- Every step keeps the capacities of the queues, the log, the change list and the stores (R17, R66, R103, R126, R135,
R150). -/
def Obligations.StepKeepsCapacities : Prop := ∀ s t : State, s.Bounded → step s = .next t → t.Bounded

/-- Every step keeps the laws of the attention unit and of the outgoing queue (R142, R165). -/
def Obligations.StepKeepsAttentionLaws : Prop :=
  (∀ s t : State, s.FlagsMatchSets → step s = .next t → t.FlagsMatchSets) ∧
    ∀ s t : State, s.OutgoingLaw → step s = .next t → t.OutgoingLaw

/-- Every step keeps the laws of the group timing units: which timers a state has, and that a group follows an ALIGNED
member (R43, R44, R47, R53, R56); and that no boundary of a group lies after the model's clock and no last locked period is
0, the premises of HoldoverEntry (logs 1 and 17). -/
def Obligations.StepKeepsTimingLaws : Prop :=
  (∀ s t : State, s.TimingLaw → step s = .next t → t.TimingLaw) ∧
    (∀ s t : State, s.FollowLaw → step s = .next t → t.FollowLaw) ∧
    ∀ s t : State, s.ClockLaw → step s = .next t → t.ClockLaw

/-- Every step keeps a read mark UNSET whenever its source is not ALIGNED or its group is STOPPED (R69). -/
def Obligations.StepKeepsMarksUnset : Prop :=
  ∀ s t : State, s.TimingLaw → s.MarkLaw → step s = .next t → t.MarkLaw

/-- Every step keeps the batch the number of its in-flight entries, one entry of each kind a destination, and in-flight
entries on RUN trunks only (R103, R112, R119). -/
def Obligations.StepKeepsBatchLaws : Prop :=
  (∀ s t : State, s.BatchLaw → s.OneEntryEach → step s = .next t → t.BatchLaw ∧ t.OneEntryEach) ∧
    ∀ s t : State, s.FlightLaw → step s = .next t → t.FlightLaw

/-- Every step keeps the frame stores in order (empty unless ALIGNED, numbered in one series, L values a frame), every entry
naming existing slots, the masks below the frame length, and every FORCE, last-sent, idle, stored and driven value within the
width it is held at (R8, R15, R23, R32, R67, R68, R84). -/
def Obligations.StepKeepsStoresAndSlots : Prop :=
  (∀ s t : State, s.MaskLaw → s.StoreLaw → step s = .next t → t.StoreLaw) ∧
    (∀ s t : State, s.SlotLaw → step s = .next t → t.SlotLaw) ∧
    (∀ s t : State, s.MaskLaw → step s = .next t → t.MaskLaw) ∧
    ∀ s t : State, s.MaskLaw → s.StoreLaw → s.ValueLaw → step s = .next t → t.ValueLaw

/-- Every step keeps at most one destination in PLAY, counting the active map and the change list together, and the fan-out
of every source at most twelve in the projected map (R95, R96, R98). -/
def Obligations.StepKeepsMapLaws : Prop :=
  (∀ s t : State, s.OnePlay → step s = .next t → t.OnePlay) ∧
    ∀ s t : State, s.OneEntryEach → s.BatchLaw → s.FanoutLaw → step s = .next t → t.FanoutLaw

end
end

