-- ==== Sys2Proof/Laws/State.lean ====
section
/-! SUPPORT. The small lemmas of the tables of State: what an accessor reads after an update, and which fields each
update leaves. -/

namespace Sys2Proof.Machine

/-! ### Reading after an update -/

theorem State.trunk_modifyTrunk (s : State) (t t' : TrunkId) (f : Trunk → Trunk) :
    (s.modifyTrunk t f).trunk t' = if t' = t then f (s.trunk t) else s.trunk t' := by
  simp only [State.trunk, State.modifyTrunk, Fin.getElem_fin, Vector.getElem_set]
  by_cases h : t' = t
  · subst h; simp
  · have : ¬(t : Nat) = t' := fun e => h (Fin.ext e.symm)
    simp [h, this]

@[simp] theorem State.trunk_modifyTrunk_self (s : State) (t : TrunkId) (f : Trunk → Trunk) :
    (s.modifyTrunk t f).trunk t = f (s.trunk t) := by simp [State.trunk_modifyTrunk]

theorem State.trunk_modifyTrunk_ne (s : State) {t t' : TrunkId} (h : t' ≠ t) (f : Trunk → Trunk) :
    (s.modifyTrunk t f).trunk t' = s.trunk t' := by simp [State.trunk_modifyTrunk, h]

theorem State.group_modifyGroup (s : State) (g g' : GroupId) (f : Group → Group) :
    (s.modifyGroup g f).group g' = if g' = g then f (s.group g) else s.group g' := by
  simp only [State.group, State.modifyGroup, Fin.getElem_fin, Vector.getElem_set]
  by_cases h : g' = g
  · subst h; simp
  · have : ¬(g : Nat) = g' := fun e => h (Fin.ext e.symm)
    simp [h, this]

@[simp] theorem State.group_modifyGroup_self (s : State) (g : GroupId) (f : Group → Group) :
    (s.modifyGroup g f).group g = f (s.group g) := by simp [State.group_modifyGroup]

theorem State.group_modifyGroup_ne (s : State) {g g' : GroupId} (h : g' ≠ g) (f : Group → Group) :
    (s.modifyGroup g f).group g' = s.group g' := by simp [State.group_modifyGroup, h]

@[simp] theorem State.pair_mapPairs (s : State) (f : GroupId → TrunkId → Pair → Pair) (g : GroupId) (t : TrunkId) :
    (s.mapPairs f).pair g t = f g t (s.pair g t) := by simp [State.pair, State.mapPairs]

@[simp] theorem State.entry_mapEntries (s : State) (f : FullSlot → MapEntry → MapEntry) (d : FullSlot) :
    (s.mapEntries f).entry d = f d (s.entry d) := by
  cases d; simp [State.entry, State.mapEntries]

/-! ### What an update leaves -/

@[simp] theorem State.modifyTrunk_fields (s : State) (t : TrunkId) (f : Trunk → Trunk) :
    (s.modifyTrunk t f).groups = s.groups ∧ (s.modifyTrunk t f).pairs = s.pairs ∧ (s.modifyTrunk t f).map = s.map ∧
      (s.modifyTrunk t f).changes = s.changes ∧ (s.modifyTrunk t f).batch = s.batch ∧
      (s.modifyTrunk t f).nextBatch = s.nextBatch ∧ (s.modifyTrunk t f).lastBatch = s.lastBatch ∧
      (s.modifyTrunk t f).tap = s.tap ∧ (s.modifyTrunk t f).playout = s.playout ∧
      (s.modifyTrunk t f).attention = s.attention ∧ (s.modifyTrunk t f).log = s.log ∧
      (s.modifyTrunk t f).uptime = s.uptime ∧ (s.modifyTrunk t f).link = s.link ∧ (s.modifyTrunk t f).now = s.now ∧
      (s.modifyTrunk t f).choices = s.choices ∧ (s.modifyTrunk t f).pending = s.pending :=
  ⟨rfl, rfl, rfl, rfl, rfl, rfl, rfl, rfl, rfl, rfl, rfl, rfl, rfl, rfl, rfl, rfl⟩

@[simp] theorem State.modifyGroup_fields (s : State) (g : GroupId) (f : Group → Group) :
    (s.modifyGroup g f).trunks = s.trunks ∧ (s.modifyGroup g f).pairs = s.pairs ∧ (s.modifyGroup g f).map = s.map ∧
      (s.modifyGroup g f).changes = s.changes ∧ (s.modifyGroup g f).batch = s.batch ∧
      (s.modifyGroup g f).nextBatch = s.nextBatch ∧ (s.modifyGroup g f).lastBatch = s.lastBatch ∧
      (s.modifyGroup g f).tap = s.tap ∧ (s.modifyGroup g f).playout = s.playout ∧
      (s.modifyGroup g f).attention = s.attention ∧ (s.modifyGroup g f).log = s.log ∧
      (s.modifyGroup g f).uptime = s.uptime ∧ (s.modifyGroup g f).link = s.link ∧ (s.modifyGroup g f).now = s.now ∧
      (s.modifyGroup g f).choices = s.choices ∧ (s.modifyGroup g f).pending = s.pending :=
  ⟨rfl, rfl, rfl, rfl, rfl, rfl, rfl, rfl, rfl, rfl, rfl, rfl, rfl, rfl, rfl, rfl⟩

@[simp] theorem State.mapPairs_fields (s : State) (f : GroupId → TrunkId → Pair → Pair) :
    (s.mapPairs f).trunks = s.trunks ∧ (s.mapPairs f).groups = s.groups ∧ (s.mapPairs f).map = s.map ∧
      (s.mapPairs f).changes = s.changes ∧ (s.mapPairs f).batch = s.batch ∧ (s.mapPairs f).nextBatch = s.nextBatch ∧
      (s.mapPairs f).lastBatch = s.lastBatch ∧ (s.mapPairs f).tap = s.tap ∧ (s.mapPairs f).playout = s.playout ∧
      (s.mapPairs f).attention = s.attention ∧ (s.mapPairs f).log = s.log ∧ (s.mapPairs f).uptime = s.uptime ∧
      (s.mapPairs f).link = s.link ∧ (s.mapPairs f).now = s.now ∧ (s.mapPairs f).choices = s.choices ∧
      (s.mapPairs f).pending = s.pending :=
  ⟨rfl, rfl, rfl, rfl, rfl, rfl, rfl, rfl, rfl, rfl, rfl, rfl, rfl, rfl, rfl, rfl⟩

@[simp] theorem State.mapEntries_fields (s : State) (f : FullSlot → MapEntry → MapEntry) :
    (s.mapEntries f).trunks = s.trunks ∧ (s.mapEntries f).groups = s.groups ∧ (s.mapEntries f).pairs = s.pairs ∧
      (s.mapEntries f).changes = s.changes ∧ (s.mapEntries f).batch = s.batch ∧
      (s.mapEntries f).nextBatch = s.nextBatch ∧ (s.mapEntries f).lastBatch = s.lastBatch ∧
      (s.mapEntries f).tap = s.tap ∧ (s.mapEntries f).playout = s.playout ∧
      (s.mapEntries f).attention = s.attention ∧ (s.mapEntries f).log = s.log ∧ (s.mapEntries f).uptime = s.uptime ∧
      (s.mapEntries f).link = s.link ∧ (s.mapEntries f).now = s.now ∧ (s.mapEntries f).choices = s.choices ∧
      (s.mapEntries f).pending = s.pending :=
  ⟨rfl, rfl, rfl, rfl, rfl, rfl, rfl, rfl, rfl, rfl, rfl, rfl, rfl, rfl, rfl, rfl⟩

@[simp] theorem State.advance_fields (s : State) (t : Time) :
    (s.advance t).trunks = s.trunks ∧ (s.advance t).groups = s.groups ∧ (s.advance t).pairs = s.pairs ∧
      (s.advance t).map = s.map ∧ (s.advance t).changes = s.changes ∧ (s.advance t).batch = s.batch ∧
      (s.advance t).nextBatch = s.nextBatch ∧ (s.advance t).lastBatch = s.lastBatch ∧ (s.advance t).tap = s.tap ∧
      (s.advance t).playout = s.playout ∧ (s.advance t).attention = s.attention ∧ (s.advance t).log = s.log ∧
      (s.advance t).uptime = s.uptime ∧ (s.advance t).link = s.link ∧ (s.advance t).now = max s.now t ∧
      (s.advance t).choices = s.choices ∧ (s.advance t).pending = s.pending :=
  ⟨rfl, rfl, rfl, rfl, rfl, rfl, rfl, rfl, rfl, rfl, rfl, rfl, rfl, rfl, rfl, rfl, rfl⟩

@[simp] theorem State.raise_fields (s : State) (r : Raising) :
    (s.raise r).trunks = s.trunks ∧ (s.raise r).groups = s.groups ∧ (s.raise r).pairs = s.pairs ∧
      (s.raise r).map = s.map ∧ (s.raise r).changes = s.changes ∧ (s.raise r).batch = s.batch ∧
      (s.raise r).nextBatch = s.nextBatch ∧ (s.raise r).lastBatch = s.lastBatch ∧ (s.raise r).tap = s.tap ∧
      (s.raise r).playout = s.playout ∧ (s.raise r).log = s.log ∧ (s.raise r).uptime = s.uptime ∧
      (s.raise r).link = s.link ∧ (s.raise r).now = s.now ∧ (s.raise r).choices = s.choices ∧
      (s.raise r).pending = s.pending :=
  ⟨rfl, rfl, rfl, rfl, rfl, rfl, rfl, rfl, rfl, rfl, rfl, rfl, rfl, rfl, rfl, rfl⟩

/-! ### What the accessors read of the tables an update leaves -/

@[simp] theorem State.modifyTrunk_group (s : State) (t : TrunkId) (f : Trunk → Trunk) (h : GroupId) :
    (s.modifyTrunk t f).group h = s.group h := rfl

@[simp] theorem State.modifyTrunk_pair (s : State) (t : TrunkId) (f : Trunk → Trunk) (h : GroupId) (k : TrunkId) :
    (s.modifyTrunk t f).pair h k = s.pair h k := rfl

@[simp] theorem State.modifyTrunk_entry (s : State) (t : TrunkId) (f : Trunk → Trunk) (d : FullSlot) :
    (s.modifyTrunk t f).entry d = s.entry d := rfl

@[simp] theorem State.modifyGroup_trunk (s : State) (g : GroupId) (f : Group → Group) (k : TrunkId) :
    (s.modifyGroup g f).trunk k = s.trunk k := rfl

@[simp] theorem State.modifyGroup_pair (s : State) (g : GroupId) (f : Group → Group) (h : GroupId) (k : TrunkId) :
    (s.modifyGroup g f).pair h k = s.pair h k := rfl

@[simp] theorem State.modifyGroup_entry (s : State) (g : GroupId) (f : Group → Group) (d : FullSlot) :
    (s.modifyGroup g f).entry d = s.entry d := rfl

@[simp] theorem State.mapPairs_trunk (s : State) (f : GroupId → TrunkId → Pair → Pair) (k : TrunkId) :
    (s.mapPairs f).trunk k = s.trunk k := rfl

@[simp] theorem State.mapPairs_group (s : State) (f : GroupId → TrunkId → Pair → Pair) (h : GroupId) :
    (s.mapPairs f).group h = s.group h := rfl

@[simp] theorem State.mapPairs_entry (s : State) (f : GroupId → TrunkId → Pair → Pair) (d : FullSlot) :
    (s.mapPairs f).entry d = s.entry d := rfl

@[simp] theorem State.mapEntries_trunk (s : State) (f : FullSlot → MapEntry → MapEntry) (k : TrunkId) :
    (s.mapEntries f).trunk k = s.trunk k := rfl

@[simp] theorem State.mapEntries_group (s : State) (f : FullSlot → MapEntry → MapEntry) (h : GroupId) :
    (s.mapEntries f).group h = s.group h := rfl

@[simp] theorem State.mapEntries_pair (s : State) (f : FullSlot → MapEntry → MapEntry) (h : GroupId) (k : TrunkId) :
    (s.mapEntries f).pair h k = s.pair h k := rfl

@[simp] theorem State.advance_trunk (s : State) (t : Time) (k : TrunkId) :
    (s.advance t).trunk k = s.trunk k := rfl

@[simp] theorem State.advance_group (s : State) (t : Time) (h : GroupId) :
    (s.advance t).group h = s.group h := rfl

@[simp] theorem State.advance_pair (s : State) (t : Time) (h : GroupId) (k : TrunkId) :
    (s.advance t).pair h k = s.pair h k := rfl

@[simp] theorem State.advance_entry (s : State) (t : Time) (d : FullSlot) :
    (s.advance t).entry d = s.entry d := rfl

@[simp] theorem State.raise_trunk (s : State) (r : Raising) (k : TrunkId) :
    (s.raise r).trunk k = s.trunk k := rfl

@[simp] theorem State.raise_group (s : State) (r : Raising) (h : GroupId) :
    (s.raise r).group h = s.group h := rfl

@[simp] theorem State.raise_pair (s : State) (r : Raising) (h : GroupId) (k : TrunkId) :
    (s.raise r).pair h k = s.pair h k := rfl

@[simp] theorem State.raise_entry (s : State) (r : Raising) (d : FullSlot) :
    (s.raise r).entry d = s.entry d := rfl

@[simp] theorem State.buffered_trunk (s : State) (r : Request) (k : TrunkId) :
    (s.buffered r).trunk k = s.trunk k := rfl

@[simp] theorem State.buffered_group (s : State) (r : Request) (h : GroupId) :
    (s.buffered r).group h = s.group h := rfl

@[simp] theorem State.buffered_pair (s : State) (r : Request) (h : GroupId) (k : TrunkId) :
    (s.buffered r).pair h k = s.pair h k := rfl

@[simp] theorem State.buffered_entry (s : State) (r : Request) (d : FullSlot) :
    (s.buffered r).entry d = s.entry d := rfl

@[simp] theorem State.buffered_fields (s : State) (r : Request) :
    (s.buffered r).trunks = s.trunks ∧ (s.buffered r).groups = s.groups ∧ (s.buffered r).pairs = s.pairs ∧
      (s.buffered r).map = s.map ∧ (s.buffered r).changes = s.changes ∧ (s.buffered r).batch = s.batch ∧
      (s.buffered r).nextBatch = s.nextBatch ∧ (s.buffered r).lastBatch = s.lastBatch ∧ (s.buffered r).tap = s.tap ∧
      (s.buffered r).playout = s.playout ∧ (s.buffered r).attention = s.attention ∧ (s.buffered r).log = s.log ∧
      (s.buffered r).uptime = s.uptime ∧ (s.buffered r).now = s.now ∧ (s.buffered r).choices = s.choices ∧
      (s.buffered r).pending = s.pending :=
  ⟨rfl, rfl, rfl, rfl, rfl, rfl, rfl, rfl, rfl, rfl, rfl, rfl, rfl, rfl, rfl, rfl⟩

end Sys2Proof.Machine
end

