-- ==== Sys2Proof/Laws/Events.lean ====
section
/-! SUPPORT. The shared operations of events and requests, one lemma each for what they can do: writing a record, the end of
an event, discards, the events that follow at once, and the taking of a request. -/

namespace Sys2Proof.Machine

/-! ### Records, notices, discards -/

/-- Writing a record changes the log and, when it was full, raises LOG_WRAP; nothing else. -/
theorem State.writeRecord_eq (s : State) (e : LogEvent) :
    s.writeRecord e =
      { s with
        log :=
          { records :=
              (if s.log.records.length < Config.logCapacity then s.log.records else s.log.records.drop 1) ++
                [{ seq := s.log.next, event := e, time := s.uptime }]
            next := s.log.next + 1#16 }
        attention :=
          if s.log.records.length < Config.logCapacity then s.attention else s.attention.raise .logWrap } := by
  unfold State.writeRecord
  by_cases h : s.log.records.length < Config.logCapacity <;> simp [h, State.raise]

@[simp] theorem State.writeRecord_fields (s : State) (e : LogEvent) :
    (s.writeRecord e).trunks = s.trunks ∧ (s.writeRecord e).groups = s.groups ∧ (s.writeRecord e).pairs = s.pairs ∧
      (s.writeRecord e).map = s.map ∧ (s.writeRecord e).changes = s.changes ∧ (s.writeRecord e).batch = s.batch ∧
      (s.writeRecord e).nextBatch = s.nextBatch ∧ (s.writeRecord e).lastBatch = s.lastBatch ∧
      (s.writeRecord e).tap = s.tap ∧ (s.writeRecord e).playout = s.playout ∧ (s.writeRecord e).uptime = s.uptime ∧
      (s.writeRecord e).link = s.link ∧ (s.writeRecord e).now = s.now ∧ (s.writeRecord e).choices = s.choices ∧
      (s.writeRecord e).pending = s.pending := by
  simp [State.writeRecord_eq]

@[simp] theorem State.writeRecord_trunk (s : State) (e : LogEvent) (k : TrunkId) :
    (s.writeRecord e).trunk k = s.trunk k := by simp [State.trunk]

@[simp] theorem State.writeRecord_group (s : State) (e : LogEvent) (h : GroupId) :
    (s.writeRecord e).group h = s.group h := by simp [State.group]

@[simp] theorem State.writeRecord_pair (s : State) (e : LogEvent) (h : GroupId) (k : TrunkId) :
    (s.writeRecord e).pair h k = s.pair h k := by simp [State.pair]

@[simp] theorem State.writeRecord_entry (s : State) (e : LogEvent) (d : FullSlot) :
    (s.writeRecord e).entry d = s.entry d := by simp [State.entry]

/-- The end of an event changes the outgoing queue and notice waiting alone. -/
theorem State.finish_eq (s : State) :
    ∃ outgoing waiting, s.finish =
      { s with
        link := { s.link with outgoing := outgoing }
        attention := { s.attention with noticeWaiting := waiting } } := by
  have hq : ∃ outgoing, s.queueNotice = { s with link := { s.link with outgoing := outgoing } } := by
    unfold State.queueNotice State.enqueue
    split
    · exact ⟨_, rfl⟩
    · exact ⟨s.link.outgoing, rfl⟩
  obtain ⟨out, hq⟩ := hq
  unfold State.finish State.beginSending
  rw [hq]
  dsimp only
  split
  · exact ⟨_, _, rfl⟩
  · exact ⟨out, s.attention.noticeWaiting, rfl⟩

@[simp] theorem State.finish_fields (s : State) :
    s.finish.trunks = s.trunks ∧ s.finish.groups = s.groups ∧ s.finish.pairs = s.pairs ∧ s.finish.map = s.map ∧
      s.finish.changes = s.changes ∧ s.finish.batch = s.batch ∧ s.finish.nextBatch = s.nextBatch ∧
      s.finish.lastBatch = s.lastBatch ∧ s.finish.tap = s.tap ∧ s.finish.playout = s.playout ∧
      s.finish.log = s.log ∧ s.finish.uptime = s.uptime ∧ s.finish.now = s.now ∧ s.finish.choices = s.choices ∧
      s.finish.pending = s.pending ∧ s.finish.link.phase = s.link.phase ∧ s.finish.link.rate = s.link.rate ∧
      s.finish.link.receiver = s.link.receiver ∧ s.finish.link.completed = s.link.completed ∧
      s.finish.link.requestBuffer = s.link.requestBuffer ∧ s.finish.link.contextSource = s.link.contextSource ∧
      s.finish.link.contextDestination = s.link.contextDestination ∧ s.finish.link.discards = s.link.discards ∧
      s.finish.link.lastDiscard = s.link.lastDiscard ∧ s.finish.attention.flags = s.attention.flags ∧
      s.finish.attention.mask = s.attention.mask ∧ s.finish.attention.report = s.attention.report := by
  obtain ⟨out, w, h⟩ := s.finish_eq
  simp [h, Attention.report]

@[simp] theorem State.finish_trunk (s : State) (k : TrunkId) :
    (s.finish).trunk k = s.trunk k := by simp [State.trunk]

@[simp] theorem State.finish_group (s : State) (h : GroupId) :
    (s.finish).group h = s.group h := by simp [State.group]

@[simp] theorem State.finish_pair (s : State) (h : GroupId) (k : TrunkId) :
    (s.finish).pair h k = s.pair h k := by simp [State.pair]

@[simp] theorem State.finish_entry (s : State) (d : FullSlot) :
    (s.finish).entry d = s.entry d := by simp [State.entry]

/-- A discard counts its kind, names it and raises LINK_ERROR; nothing else (R161). -/
theorem State.discardMessage_eq (s : State) (k : DiscardKind) :
    s.discardMessage k =
      { s with
        link := { s.link with
          discards := s.link.discards.set k.index (satAdd s.link.discards[k.index] 1)
          lastDiscard := some k }
        attention := s.attention.raise .linkError } := rfl

/-! ### Settling -/

/-- Where nothing is due, `settle` leaves the state. -/
theorem State.settle_of_settled {s : State} (h : s.Settled) : s.settle = s := by
  obtain ⟨-, ht, hm, ho⟩ := h
  simp [State.settle, State.settleTap, State.settleMessage, State.settleTimeout, ht, hm, ho]

/-- An event where nothing is due. -/
theorem event_of_settled {s : State} (h : s.Settled) (body : State → State) : event body s = .next (body s).finish := by
  simp [event, h.1, State.settle_of_settled h]

/-- No event occurs in reset. -/
theorem event_inReset {s : State} (h : s.inReset = true) (body : State → State) : event body s = .next s := by
  simp [event, h]

/-! ### Requests -/

/-- The end of a taking: the reply has joined the queue behind what the rule left, and the event has ended. -/
theorem State.finish_take (s : State) (r : Request) (h : Handler) :
    (s.take r h).finish = (h s).2.replied r.code (h s).1.payload := rfl

@[simp] theorem State.buffered_requestBuffer (r : Request) (s : State) :
    (s.buffered r).link.requestBuffer = some r := rfl

/-- A request that is ready is taken: the answer is its rule's, replied. -/
theorem serve_of_ready {r : Request} {s : State} (h : s.Ready r) (handler : Handler) :
    serve r handler s = .next ((handler (s.buffered r)).2.replied r.code
      (handler (s.buffered r)).1.payload) := by
  obtain ⟨hs, hp, hb, hw⟩ := h
  have hoffer : (if s.link.requestBuffer = some r then s else s.offerRequest r) =
      (s.buffered r) := by
    rcases hb with hb | hb
    · simp [hb, State.offerRequest, hp, State.buffered]
    · rw [if_pos hb, State.buffered, ← hb]
  unfold serve
  rw [event_of_settled hs]
  dsimp only
  rw [hoffer]
  have hw' : State.replyWaiting (s.buffered r) = false := hw
  rw [if_pos ⟨State.buffered_requestBuffer r s, hw'⟩, ← State.finish_take]

/-- A request row that is ready is taken by its rule. -/
theorem taken_of_ready {i : Instr} {r : Request} (hr : encodeRequest i = some r) {s : State} (h : s.Ready r)
    (handler : Handler) :
    taken i handler s = .next ((handler (s.buffered r)).2.replied r.code
      (handler (s.buffered r)).1.payload) := by
  rw [taken, hr]; exact serve_of_ready h handler

/-- What the buffer held makes no difference to a state that is replied. -/
@[simp] theorem State.replied_setBuffer (s : State) (b : Option Request) (code : Byte) (payload : List Byte) :
    State.replied code payload { s with link := { s.link with requestBuffer := b } } = s.replied code payload := rfl

@[simp] theorem State.replied_buffered (s : State) (r : Request) (code : Byte) (payload : List Byte) :
    State.replied code payload (s.buffered r) = s.replied code payload := rfl

end Sys2Proof.Machine
end

