-- ==== Sys2Proof/Laws/Timing.lean ====
section
/-! SUPPORT. The shared operations of frames, batches and groups, with what each can change: the application of in-flight
entries, the assembly of a frame, the transmit frame start, the boundary, the holds, and the placing of a staged entry. -/

namespace Sys2Proof.Machine

/-! ### Batches -/

/-- Application changes the map, the change list, the batch with its record, and the attention unit alone. -/
theorem State.applyInFlight_eq (p : TrunkId → Bool) (s : State) :
    ∃ map changes batch lastBatch attention, s.applyInFlight p =
      { s with map := map, changes := changes, batch := batch, lastBatch := lastBatch, attention := attention } := by
  unfold State.applyInFlight
  dsimp only
  split
  · exact ⟨s.map, s.changes, s.batch, s.lastBatch, s.attention, rfl⟩
  · split
    · exact ⟨_, _, _, _, _, rfl⟩
    · split <;> exact ⟨_, _, _, _, _, rfl⟩

@[simp] theorem State.applyInFlight_fields (p : TrunkId → Bool) (s : State) :
    (s.applyInFlight p).trunks = s.trunks ∧ (s.applyInFlight p).groups = s.groups ∧
      (s.applyInFlight p).pairs = s.pairs ∧ (s.applyInFlight p).nextBatch = s.nextBatch ∧
      (s.applyInFlight p).tap = s.tap ∧ (s.applyInFlight p).playout = s.playout ∧ (s.applyInFlight p).log = s.log ∧
      (s.applyInFlight p).uptime = s.uptime ∧ (s.applyInFlight p).link = s.link ∧ (s.applyInFlight p).now = s.now ∧
      (s.applyInFlight p).choices = s.choices ∧ (s.applyInFlight p).pending = s.pending := by
  obtain ⟨m, c, b, l, a, h⟩ := s.applyInFlight_eq p
  simp [h]

@[simp] theorem State.applyInFlight_trunk (p : TrunkId → Bool) (s : State) (k : TrunkId) :
    (s.applyInFlight p).trunk k = s.trunk k := by simp [State.trunk]

@[simp] theorem State.applyInFlight_group (p : TrunkId → Bool) (s : State) (g : GroupId) :
    (s.applyInFlight p).group g = s.group g := by simp [State.group]

@[simp] theorem State.applyInFlight_pair (p : TrunkId → Bool) (s : State) (g : GroupId) (k : TrunkId) :
    (s.applyInFlight p).pair g k = s.pair g k := by simp [State.pair]

/-- Exactly the in-flight entries on the trunks `p` leave the change list. -/
theorem State.applyInFlight_changes (p : TrunkId → Bool) (s : State) :
    (s.applyInFlight p).changes = s.changes.filter fun c => !(c.batch.isSome && p c.destination.trunk) := by
  unfold State.applyInFlight
  dsimp only
  split
  next h =>
    rw [eq_comm, List.filter_eq_self]
    intro c hc
    simp only [List.isEmpty_iff, State.inFlightOn, List.filter_eq_nil_iff] at h
    have := h c hc
    cases hb : c.batch.isSome <;> simp_all
  next h =>
    split
    · rfl
    · split <;> rfl

/-- An applied destination holds the newest entry applied to it; every other destination keeps its entry. -/
theorem State.applyInFlight_entry (p : TrunkId → Bool) (s : State) (d : FullSlot) :
    (s.applyInFlight p).entry d =
      match (s.inFlightOn p).reverse.find? (·.destination == d) with
      | some c => c.entry
      | none => s.entry d := by
  have hw : ∀ u : State, u.map = (s.writeEntries (s.inFlightOn p)).map → u.entry d =
      match (s.inFlightOn p).reverse.find? (·.destination == d) with
      | some c => c.entry
      | none => s.entry d := by
    intro u hu
    have hm : u.entry d = (s.writeEntries (s.inFlightOn p)).entry d := by simp only [State.entry, hu]
    rw [hm, State.writeEntries]
    exact State.entry_mapEntries ..
  by_cases h : (s.inFlightOn p).isEmpty = true
  · have hs : s.applyInFlight p = s := by unfold State.applyInFlight; simp only [h, if_true]
    rw [hs]
    simp only [List.isEmpty_iff] at h
    simp [h]
  · refine hw _ ?_
    unfold State.applyInFlight
    rw [if_neg h]
    split
    · rfl
    · split <;> rfl

/-! ### Frames -/

/-- An underrun changes the playout queue's counts, the attention unit and the log alone. -/
theorem State.underrun_eq (s : State) (t : TrunkId) :
    ∃ playout attention log, s.underrun t = { s with playout := playout, attention := attention, log := log } := by
  unfold State.underrun
  dsimp only
  split
  · exact ⟨_, s.attention, s.log, rfl⟩
  · rw [State.writeRecord_eq]; exact ⟨_, _, _, rfl⟩

/-- Assembly of a slot changes the trunks, the playout queue, the attention unit and the log alone. -/
theorem State.assembleSlot_eq (t : TrunkId) (d : SlotId) (s : State) :
    ∃ trunks playout attention log, (s.assembleSlot t d).2 =
      { s with trunks := trunks, playout := playout, attention := attention, log := log } := by
  unfold State.assembleSlot
  split
  · exact ⟨s.trunks, s.playout, s.attention, s.log, rfl⟩
  · exact ⟨_, s.playout, s.attention, s.log, rfl⟩
  · split
    · exact ⟨_, _, s.attention, s.log, rfl⟩
    · obtain ⟨p, a, l, h⟩ := s.underrun_eq t
      rw [h]
      exact ⟨_, p, a, l, rfl⟩

/-- Of the trunks it changes the last-sent values of its own trunk alone. -/
theorem State.assembleSlot_trunk (t : TrunkId) (d : SlotId) (s : State) :
    ∃ sent, ∀ t', (s.assembleSlot t d).2.trunk t' =
      if t' = t then { s.trunk t with tx := { (s.trunk t).tx with lastSent := sent } } else s.trunk t' := by
  have hs : ∀ (u : State) (v : Value), (∀ t', u.trunk t' = s.trunk t') → ∀ t', (u.sent t d v).trunk t' =
      if t' = t then { s.trunk t with tx := { (s.trunk t).tx with lastSent := (s.trunk t).tx.lastSent.set d (some v) } }
      else s.trunk t' := by
    intro u v hu t'
    simp [State.sent, State.trunk_modifyTrunk, hu]
  unfold State.assembleSlot
  split
  · refine ⟨(s.trunk t).tx.lastSent, fun t' => ?_⟩
    by_cases h : t' = t <;> simp [h]
  · exact ⟨_, hs s _ fun _ => rfl⟩
  · split
    · exact ⟨_, hs _ _ fun _ => rfl⟩
    · refine ⟨_, hs _ _ fun t' => ?_⟩
      obtain ⟨p, a, l, h⟩ := s.underrun_eq t
      rw [h]
      rfl

/-- The assembly of any slots in turn changes the trunks, the playout queue, the attention unit and the log alone. -/
theorem State.assembleSlots_eq (t : TrunkId) (ds : List SlotId) (s : State) :
    ∃ trunks playout attention log, (State.assembleSlots t ds s).2 =
      { s with trunks := trunks, playout := playout, attention := attention, log := log } := by
  induction ds generalizing s with
  | nil => exact ⟨s.trunks, s.playout, s.attention, s.log, rfl⟩
  | cons d ds ih =>
    obtain ⟨k, p, a, l, h⟩ := s.assembleSlot_eq t d
    obtain ⟨k', p', a', l', h'⟩ := ih (s.assembleSlot t d).2
    rw [State.assembleSlots, h', h]
    exact ⟨k', p', a', l', rfl⟩

/-- Of the trunks it changes the last-sent values of its own trunk alone. -/
theorem State.assembleSlots_trunk (t : TrunkId) (ds : List SlotId) (s : State) :
    ∃ sent, ∀ t', (State.assembleSlots t ds s).2.trunk t' =
      if t' = t then { s.trunk t with tx := { (s.trunk t).tx with lastSent := sent } } else s.trunk t' := by
  induction ds generalizing s with
  | nil =>
    refine ⟨(s.trunk t).tx.lastSent, fun t' => ?_⟩
    by_cases h : t' = t <;> simp [State.assembleSlots, h]
  | cons d ds ih =>
    obtain ⟨sent, h⟩ := s.assembleSlot_trunk t d
    obtain ⟨sent', h'⟩ := ih (s.assembleSlot t d).2
    refine ⟨sent', fun t' => ?_⟩
    rw [State.assembleSlots, h' t']
    by_cases ht : t' = t
    · simp [ht, h t]
    · simp [ht, h t']

/-- A frame has one outcome for each of its slots. -/
theorem State.assembleSlots_length (t : TrunkId) (ds : List SlotId) (s : State) :
    (State.assembleSlots t ds s).1.length = ds.length := by
  induction ds generalizing s with
  | nil => rfl
  | cons d ds ih => simp [State.assembleSlots, ih]

/-- A transmit frame start changes the trunks, the map, the change list with its batch, the playout queue, the attention unit
and the log alone. -/
theorem State.transmitStart_eq (t : TrunkId) (s : State) :
    ∃ trunks map changes batch lastBatch playout attention log, s.transmitStart t =
      { s with trunks := trunks, map := map, changes := changes, batch := batch, lastBatch := lastBatch
               playout := playout, attention := attention, log := log } := by
  unfold State.transmitStart State.driveFrame
  dsimp only
  generalize hs : (s.modifyTrunk t fun k =>
    { k with txMask := k.txMask.activate, tx := { k.tx with startDue := false } }) = s0
  obtain ⟨m, c, b, lb, a, h⟩ := s0.applyInFlight_eq (· == t)
  generalize frameSlots ((s0.applyInFlight (· == t)).trunk t).format.length = ds
  obtain ⟨k, p, a', l, h'⟩ := State.assembleSlots_eq t ds (s0.applyInFlight (· == t))
  rw [h', h, ← hs]
  exact ⟨_, m, c, b, lb, p, a', l, rfl⟩

/-- Of the trunks it changes the transmit section and the transmit mask of its own trunk alone. -/
theorem State.transmitStart_trunk (t : TrunkId) (s : State) :
    ∃ tx, tx.state = (s.trunk t).tx.state ∧ tx.firstSent = true ∧ tx.startDue = false ∧
      ∀ t', (s.transmitStart t).trunk t' =
        if t' = t then { s.trunk t with tx := tx, txMask := (s.trunk t).txMask.activate } else s.trunk t' := by
  unfold State.transmitStart State.driveFrame
  dsimp only
  generalize hs : (s.modifyTrunk t fun k =>
    { k with txMask := k.txMask.activate, tx := { k.tx with startDue := false } }) = s0
  have h0 : ∀ t', (s0.applyInFlight (· == t)).trunk t' = if t' = t then
      { s.trunk t with
        txMask := (s.trunk t).txMask.activate
        tx := { (s.trunk t).tx with startDue := false } } else s.trunk t' := by
    intro t'; rw [State.applyInFlight_trunk, ← hs, State.trunk_modifyTrunk]
  generalize s0.applyInFlight (· == t) = v at h0 ⊢
  obtain ⟨sent, h⟩ := State.assembleSlots_trunk t (frameSlots (v.trunk t).format.length) v
  refine ⟨{ state := (s.trunk t).tx.state, firstSent := true, lastSent := sent, line := some ?_, startDue := false },
    rfl, rfl, rfl, fun t' => ?_⟩
  rotate_left
  · rw [State.trunk_modifyTrunk, h t, h t']
    by_cases ht : t' = t
    · simp only [ht, if_true, h0]
      rfl
    · simp only [ht, if_false, h0]

/-! ### Groups -/

/-- A boundary changes the trunks, the groups, the pairs and the attention unit alone. -/
theorem State.boundary_eq (g : GroupId) (b : Boundary) (s : State) :
    ∃ trunks groups pairs attention, s.boundary g b =
      { s with trunks := trunks, groups := groups, pairs := pairs, attention := attention } := by
  unfold State.boundary State.selectFrames State.causeStarts
  dsimp only
  split <;> split <;> exact ⟨_, _, _, _, rfl⟩

/-- A transmit hold changes the trunks, the groups, the pairs, the map, the change list with its batch and the attention unit
alone. -/
theorem State.holdTransmit_eq (t : TrunkId) (s : State) :
    ∃ trunks groups pairs map changes batch lastBatch attention, s.holdTransmit t =
      { s with trunks := trunks, groups := groups, pairs := pairs, map := map, changes := changes, batch := batch
               lastBatch := lastBatch, attention := attention } := by
  obtain ⟨m, c, b, lb, a, h⟩ := s.applyInFlight_eq (· == t)
  unfold State.holdTransmit State.clearForced State.stopGroup
  dsimp only
  rw [h]
  split <;> split <;> exact ⟨_, _, _, _, _, _, _, _, rfl⟩

/-- What is due of a group's boundaries is nothing: `settleBoundary` leaves the state. -/
theorem State.settleBoundary_of_none {s : State} {g : GroupId} (h : (s.group g).due = none) : s.settleBoundary g = s := by
  simp [State.settleBoundary, h]

/-- Where the group does not follow the trunk, or no boundary of it is due, `settleFollower` leaves the state. -/
theorem State.settleFollower_of_none {s : State} {t : TrunkId}
    (h : (s.group (s.trunk t).group).follows t = true → (s.group (s.trunk t).group).due = none) :
    s.settleFollower t = s := by
  by_cases hf : (s.group (s.trunk t).group).follows t = true
  · simp [State.settleFollower, State.settleBoundary, h hf]
  · simp [State.settleFollower, hf]

/-- Where another RUN member stays, or no boundary of the group is due, `settleStopped` leaves the state. -/
theorem State.settleStopped_of_none {s : State} {t : TrunkId}
    (h : s.lastRunMember t = true → (s.group (s.trunk t).group).due = none) : s.settleStopped t = s := by
  by_cases hf : s.lastRunMember t = true
  · simp [State.settleStopped, State.settleBoundary, h hf]
  · simp [State.settleStopped, hf]

/-- Where no start of a RUN member is due, `settleStarts` leaves the state. -/
theorem State.settleStarts_of_none {s : State} {g : GroupId}
    (h : ∀ t : TrunkId, (s.trunk t).runMember g = true → (s.trunk t).tx.startDue = false) : s.settleStarts g = s := by
  have one : ∀ t, State.settleStart g s t = s := by
    intro t
    unfold State.settleStart
    by_cases hr : (s.trunk t).runMember g = true
    · simp [h t hr]
    · simp [hr]
  have all : ∀ ts : List TrunkId, ts.foldl (State.settleStart g) s = s := by
    intro ts
    induction ts with
    | nil => rfl
    | cons t ts ih => rw [List.foldl_cons, one, ih]
  exact all _

/-! ### The change list -/

/-- What the placing of a staged entry can do: replace in place, append, or refuse with LIST_FULL. -/
theorem stageEntry_eq (d : FullSlot) (e : MapEntry) (s : State) :
    (∃ i, s.changes.findIdx? (Change.stagedFor d) = some i ∧
        stageEntry d e s = okWith (d.bytes ++ [natByte i, 1#8])
          { s with changes := s.changes.set i { destination := d, entry := e, batch := none } }) ∨
      (s.changes.any (Change.stagedFor d) = false ∧ s.changes.length < 64 ∧
        stageEntry d e s = okWith (d.bytes ++ [natByte s.changes.length, 0#8])
          { s with changes := s.changes ++ [{ destination := d, entry := e, batch := none }] }) ∨
      (s.changes.any (Change.stagedFor d) = false ∧ 64 ≤ s.changes.length ∧ stageEntry d e s = refuse .listFull s) := by
  unfold stageEntry
  dsimp only
  split
  next i h => exact .inl ⟨i, h, rfl⟩
  next h =>
    have hn : s.changes.any (Change.stagedFor d) = false := by
      simpa [List.findIdx?_eq_none_iff] using h
    right
    split
    next hl => exact .inl ⟨hn, hl, rfl⟩
    next hl => exact .inr ⟨hn, by simpa [Config.changeListCapacity] using hl, rfl⟩

end Sys2Proof.Machine
end

