-- ==== Sys2Proof/Laws/Lines.lean ====
section
/-! SUPPORT. The lines bit by bit: what a slot of a receive line gives (R22, R38), and where the bits of a byte stand on the
control link (R156). -/

namespace Sys2Proof.Machine

/-! ### Receive lines -/

/-- Bit `i` of the value received in slot `d` is the level W − 1 − i bit times after the slot's first. -/
theorem receivedValue_getLsbD (w : Width) (line : LineBits) (d : SlotId) (i : Nat) :
    (receivedValue w line d).getLsbD i = (decide (i < w.bits) && line.getLsbD (d.val * w.bits + (w.bits - 1 - i))) := by
  cases w <;> simp only [receivedValue, Width.bits, BitVec.getLsbD_setWidth, BitVec.getLsbD_reverse, BitVec.getMsbD_eq_getLsbD,
    BitVec.getLsbD_extractLsb'] <;> by_cases h : i < 8 <;> by_cases h' : i < 16 <;> simp [h, h'] <;> omega

/-- A received value lies within its width (R8). -/
theorem receivedValue_holds (w : Width) (line : LineBits) (d : SlotId) : w.holds (receivedValue w line d) = true := by
  simp only [Width.holds, decide_eq_true_eq, receivedValue, BitVec.toNat_setWidth]
  exact lt_of_le_of_lt (Nat.mod_le _ _) (BitVec.isLt _)

/-- A converted value lies within the width it is brought to, when it lies within its own (R8, R9). -/
theorem convert_holds (source target : Width) (v : Value) (h : source.holds v = true) :
    target.holds (convert source target v) = true := by
  have hv := v.isLt
  simp only [Width.holds, decide_eq_true_eq] at *
  cases source <;> cases target <;>
    simp only [Width.bits, convert, BitVec.toNat_shiftLeft, BitVec.toNat_ushiftRight, Nat.shiftLeft_eq,
      Nat.shiftRight_eq_div_pow] at * <;> omega

/-! ### The control link -/

@[simp] theorem serialFrame_start (b : Byte) : (serialFrame b).getLsbD 0 = !idleLevel := by
  revert b; decide +kernel

theorem serialFrame_data (b : Byte) (n : Fin 8) : (serialFrame b).getLsbD (n.val + 1) = b.getLsbD n.val := by
  revert b n; decide +kernel

@[simp] theorem serialFrame_parity (b : Byte) : (serialFrame b).getLsbD 9 = evenParity b := by
  revert b; decide +kernel

@[simp] theorem serialFrame_stop (b : Byte) : (serialFrame b).getLsbD 10 = idleLevel := by
  revert b; decide +kernel

@[simp] theorem SerialFrame.levels_length (f : SerialFrame) : f.levels.length = 11 := by simp [SerialFrame.levels]

/-- A message is sent in eleven bit times a byte. -/
theorem OutMessage.levels_length (m : OutMessage) : m.levels.length = 11 * m.bytes.length := by
  simp [OutMessage.levels, List.length_flatMap, Nat.mul_comm]

end Sys2Proof.Machine
end

