-- ==== Sys2Proof/Laws/PerInstr.lean ====
section
/-! SUPPORT. One fact about every command as syntax, constructor by constructor: the request a well-formed row stands for
fits a message, and R163 sorts it as the row says. -/

namespace Sys2Proof.Laws.Requests

/-- Whether R163 sorts the row's request as a command to be taken: not one with an unknown code or a wrong size. -/
def isCommand : Instr → Bool
  | .unknownCommand _ _ => false
  | .payloadSizeWrong _ _ => false
  | _ => true

/-- The request a well-formed row stands for, if any, has a payload that fits a message (R171), and its code is known and its
size right exactly when the row is a command (R163). -/
def Statement (i : Instr) : Prop :=
  i.wellFormed = true → ∀ r, encodeRequest i = some r →
    r.payload.length ≤ maxPayload ∧ (knownCode r.code && payloadSizeRight r.code r.payload) = isCommand i

/-- A row whose code is known, with the payload size of its code, fits its statement. -/
theorem statement_of_sized {i : Instr} {code : Byte} {payload : List Byte} (he : encodeRequest i = some ⟨code, payload⟩)
    (hc : (knownCode code && (code != playLoadCode) && (fixedPayloadSize code == some payload.length) &&
      decide (payload.length ≤ maxPayload)) = true) (hi : isCommand i = true) : Statement i := by
  intro _ r hr
  rw [he] at hr
  cases hr
  simp only [Bool.and_eq_true, bne_iff_ne, decide_eq_true_eq, beq_iff_eq] at hc
  obtain ⟨⟨⟨hk, hp⟩, hs⟩, hl⟩ := hc
  simp [hl, hi, hk, payloadSizeRight, hp, hs]

/-- A row that stands for no request fits its statement. -/
theorem statement_of_event {i : Instr} (he : encodeRequest i = none) : Statement i := by
  intro _ r hr; simp [he] at hr

theorem valueBytes_length (vs : List Value) : (valueBytes vs).length = 2 * vs.length := by
  induction vs with
  | nil => rfl
  | cons v vs ih => simp only [valueBytes, List.flatMap_cons, List.length_append] at *; simp [ih, bytes2]; omega

theorem setContext (source destination : Byte) : Statement (.setContext source destination) := statement_of_sized rfl rfl rfl

theorem getContext : Statement .getContext := statement_of_sized rfl rfl rfl

theorem format (trunk length width : Byte) (idle : Value) (keepForced : Byte) : Statement (.format trunk length width idle keepForced) := statement_of_sized rfl rfl rfl

theorem unknownCommand (code : Byte) (payload : List Byte) : Statement (.unknownCommand code payload) := by
  intro hw r hr
  cases hr
  simp only [Instr.wellFormed, Bool.and_eq_true, Bool.not_eq_true', decide_eq_true_eq] at hw
  simp [hw.1, hw.2, isCommand]

theorem rxRun (trunk : Byte) : Statement (.rxRun trunk) := statement_of_sized rfl rfl rfl

theorem rxHold (time : Time) (trunk : Byte) : Statement (.rxHold time trunk) := statement_of_sized rfl rfl rfl

theorem txRun (time : Time) (trunk : Byte) : Statement (.txRun time trunk) := statement_of_sized rfl rfl rfl

theorem txHold (trunk : Byte) : Statement (.txHold trunk) := statement_of_sized rfl rfl rfl

theorem setMask (trunk direction : Byte) (slots : SlotSet) : Statement (.setMask trunk direction slots) := statement_of_sized rfl rfl rfl

theorem trunkStatus (trunk clear : Byte) : Statement (.trunkStatus trunk clear) := statement_of_sized rfl rfl rfl

theorem groupMove (trunk group : Byte) : Statement (.groupMove trunk group) := statement_of_sized rfl rfl rfl

theorem groupSet (group primary standby : Byte) (grace : Value) (policy rate : Byte) (longLimit : Value) : Statement (.groupSet group primary standby grace policy rate longLimit) := statement_of_sized rfl rfl rfl

theorem revert (group : Byte) : Statement (.revert group) := statement_of_sized rfl rfl rfl

theorem meterClear (group : Byte) : Statement (.meterClear group) := statement_of_sized rfl rfl rfl

theorem groupStatus (group : Byte) : Statement (.groupStatus group) := statement_of_sized rfl rfl rfl

theorem slipStatus (group trunk : Byte) : Statement (.slipStatus group trunk) := statement_of_sized rfl rfl rfl

theorem slipClear (group target : Byte) : Statement (.slipClear group target) := statement_of_sized rfl rfl rfl

theorem mapRead (view trunk first count : Byte) : Statement (.mapRead view trunk first count) := statement_of_sized rfl rfl rfl

theorem stageLink (destination source : SlotRef) : Statement (.stageLink destination source) := statement_of_sized rfl rfl rfl

theorem stageOpen (destination : SlotRef) : Statement (.stageOpen destination) := statement_of_sized rfl rfl rfl

theorem stageForce (destination : SlotRef) (value : Value) : Statement (.stageForce destination value) := statement_of_sized rfl rfl rfl

theorem stageHold (destination : SlotRef) : Statement (.stageHold destination) := statement_of_sized rfl rfl rfl

theorem stagePlay (destination : SlotRef) : Statement (.stagePlay destination) := statement_of_sized rfl rfl rfl

theorem unstage (destination : SlotRef) : Statement (.unstage destination) := statement_of_sized rfl rfl rfl

theorem discard : Statement .discard := statement_of_sized rfl rfl rfl

theorem commit : Statement .commit := statement_of_sized rfl rfl rfl

theorem batchStatus : Statement .batchStatus := statement_of_sized rfl rfl rfl

theorem listRead (first count : Byte) : Statement (.listRead first count) := statement_of_sized rfl rfl rfl

theorem tapStart (source : SlotRef) (count : Value) : Statement (.tapStart source count) := statement_of_sized rfl rfl rfl

theorem tapStop : Statement .tapStop := statement_of_sized rfl rfl rfl

theorem tapRead (n : Byte) : Statement (.tapRead n) := statement_of_sized rfl rfl rfl

theorem playLoad (values : List Value) : Statement (.playLoad values) := by
  intro hw r hr
  cases hr
  simp only [Instr.wellFormed, decide_eq_true_eq] at hw
  have hn : values.length % 256 = values.length := by omega
  simp [payloadSizeRight, knownCode, isCommand, maxPayload, valueBytes_length, hn]
  omega

theorem playFlush : Statement .playFlush := statement_of_sized rfl rfl rfl

theorem playStatus (clear : Byte) : Statement (.playStatus clear) := statement_of_sized rfl rfl rfl

theorem attentionRead : Statement .attentionRead := statement_of_sized rfl rfl rfl

theorem ack (sources : Value) : Statement (.ack sources) := statement_of_sized rfl rfl rfl

theorem attentionMask (sources : Value) : Statement (.attentionMask sources) := statement_of_sized rfl rfl rfl

theorem logRead (n : Byte) : Statement (.logRead n) := statement_of_sized rfl rfl rfl

theorem logClear : Statement .logClear := statement_of_sized rfl rfl rfl

theorem identify : Statement .identify := statement_of_sized rfl rfl rfl

theorem restart : Statement .restart := statement_of_sized rfl rfl rfl

theorem linkStatus (clear : Byte) : Statement (.linkStatus clear) := statement_of_sized rfl rfl rfl

theorem huntMarker (trunk : TrunkId) (position : Nat) : Statement (.huntMarker trunk position) := statement_of_event rfl

theorem receiveFrameEnd (trunk : TrunkId) (time : Time) (marker : Bool) (line : LineBits) : Statement (.receiveFrameEnd trunk time marker line) := statement_of_event rfl

theorem tapRunEnd : Statement .tapRunEnd := statement_of_event rfl

theorem lossOfAlignment (trunk : TrunkId) (time : Time) : Statement (.lossOfAlignment trunk time) := statement_of_event rfl

theorem groupBoundary (group : GroupId) : Statement (.groupBoundary group) := statement_of_event rfl

theorem generatorBoundary (group : GroupId) : Statement (.generatorBoundary group) := statement_of_event rfl

theorem transmitFrameStart (trunk : TrunkId) : Statement (.transmitFrameStart trunk) := statement_of_event rfl

theorem millisecondStep : Statement .millisecondStep := statement_of_event rfl

theorem graceExpiry (group : GroupId) : Statement (.graceExpiry group) := statement_of_event rfl

theorem interByteTimeout : Statement .interByteTimeout := statement_of_event rfl

theorem linkByteArrival (byte : Byte) (parity framing overrun : Bool) : Statement (.linkByteArrival byte parity framing overrun) := statement_of_event rfl

theorem messageComplete : Statement .messageComplete := statement_of_event rfl

theorem messageSent (strap : Bool) : Statement (.messageSent strap) := statement_of_event rfl

theorem powerOn : Statement .powerOn := statement_of_event rfl

theorem resetInputAsserted : Statement .resetInputAsserted := statement_of_event rfl

theorem startUp (strap : Bool) : Statement (.startUp strap) := statement_of_event rfl

theorem payloadSizeWrong (code : Byte) (payload : List Byte) : Statement (.payloadSizeWrong code payload) := by
  intro hw r hr
  cases hr
  simp only [Instr.wellFormed, Bool.and_eq_true, Bool.not_eq_true', decide_eq_true_eq] at hw
  simp [hw.1.2, hw.2, isCommand]

end Sys2Proof.Laws.Requests
end

