-- ==== Sys2Proof/Tests/Slice0.lean ====
section
/-! SUPPORT. The model's own tests: the ill-formed terms that WellFormed refuses, the worked examples of the spec, one step
each, and for every statement with hypotheses a state and operands that meet all of them. -/

namespace Sys2Proof.Tests
open Sys2Proof Sys2Proof.Machine

set_option Elab.async false

/-! ### Small states -/

/-- The state an answer goes on to. -/
def after : Answer → Option State
  | .next s => some s
  | .fault _ => none
  | .refused _ => none

/-- The newest message of the outgoing queue after a command. -/
def reply (i : Instr) (s : State) : Option OutMessage := (after (exec i s)).bind fun t => t.link.outgoing.getLast?

/-- What a command leaves, seen through `view`. -/
def leaves {α : Type} (view : State → α) (i : Instr) (s : State) : Option α := (after (exec i s)).map view

/-- In operation after start-up. -/
def booted : State := { State.reset with link := { State.reset.link with phase := .operating } }

/-- With the outgoing queue and phase given. -/
def sending (phase : Phase) (m : List OutMessage) (s : State) : State :=
  { s with link := { s.link with phase := phase, outgoing := m } }

/-- A trunk's receive section is ALIGNED with these completed frames, the last of them numbered before `next`. -/
def aligned (t : TrunkId) (frames : List Frame) (next : BitVec 16) : State → State :=
  State.modifyTrunk t fun k =>
    { k with rx := { k.rx with state := .aligned }, store := { filling := some [], frames := frames, next := next } }

/-- A trunk's transmit section is RUN. -/
def running (t : TrunkId) : State → State := State.modifyTrunk t fun k => { k with tx := { k.tx with state := .run } }

/-- A trunk's receive section is in HUNT, with this candidate. -/
def hunting (t : TrunkId) (c : Option Nat) : State → State :=
  State.modifyTrunk t fun k => { k with rx := { k.rx with state := .hunt, candidate := c } }

/-- G0 has the primary T0 and the standby T1, and is in a state, timed as given. -/
def group0 (state : GroupState) (grace : Option (BitVec 16)) (generator : Option Time) (due : Option Boundary) :
    State → State :=
  State.modifyGroup 0 fun u =>
    { u with
      config := { u.config with primary := some 0, standby := some 1 }
      state := state, graceTimer := grace, generator := generator, due := due }

/-- T0 is RUN in G0, which is LOCKED on T0 and has taken a boundary at 600. -/
def locked : State :=
  State.modifyGroup 0 (fun u => { u with previous := some { time := 600, cause := some 0 } })
    (group0 .locked none none none (running 0 (aligned 0 [] 0#16 booted)))

/-- As `locked`, with a boundary due. -/
def lockedDue : State :=
  State.modifyGroup 0 (fun u => { u with due := some { time := 8100, cause := some 0 } }) locked

/-- T0 is RUN in G0, which is in STANDBY on T1. -/
def onStandby : State := group0 .standby none none none (running 0 (aligned 1 [] 0#16 (aligned 0 [] 0#16 booted)))

/-- T0 is RUN in G0, whose grace timer has reached 0 in HOLDOVER. -/
def expiring : State := group0 .holdover (some 0#16) (some 15000) none (running 0 (hunting 0 none booted))

/-- T0 is RUN with a start due, and T0.3 has an in-flight entry of batch 1. -/
def starting : State :=
  { group0 .locked none none none (State.modifyTrunk 0 (fun k => { k with tx := { k.tx with startDue := true } })
      (running 0 (aligned 0 [] 0#16 booted))) with
    changes := [{ destination := ⟨0, 3⟩, entry := .force 9#16, batch := some 1#8 }]
    batch := some { id := 1#8, count := 1, remaining := 1 }
    nextBatch := 2#8 }

/-- T0.3 has a staged entry. -/
def staged : State := { booted with changes := [{ destination := ⟨0, 3⟩, entry := .force 9#16, batch := none }] }

/-- A full fault log. -/
def fullLog : FaultLog :=
  { records := (List.range 16).map fun n => { seq := BitVec.ofNat 16 (40 + n), event := .rxLoss 0, time := 0#32 }
    next := 56#16 }

/-- Two replies in the outgoing queue, the second waiting. -/
def answering : State := sending .operating [.reply 0x22#8 [0x00#8], .reply 0x11#8 [0x00#8]] booted

/-- The tap is ACTIVE on T0.5 with this remaining count. -/
def tapping (r : Remaining) (s : State) : State :=
  { s with tap := { s.tap with active := true, source := some ⟨0, 5⟩, remaining := r } }

/-! ### WellFormed, smoke tests -/

theorem test_unknownCommand_known_code_refused : (Instr.unknownCommand 0x01#8 []).wellFormed = false := by decide
theorem test_unknownCommand_long_payload_refused :
    (Instr.unknownCommand 0x7F#8 (List.replicate 201 0#8)).wellFormed = false := by decide +kernel
theorem test_unknownCommand_wellFormed : (Instr.unknownCommand 0x7F#8 [1#8]).wellFormed = true := by decide
theorem test_payloadSizeWrong_right_size_refused : (Instr.payloadSizeWrong 0x12#8 [1#8]).wellFormed = false := by decide
theorem test_payloadSizeWrong_unknown_code_refused : (Instr.payloadSizeWrong 0x7F#8 [1#8]).wellFormed = false := by decide
theorem test_payloadSizeWrong_long_payload_refused :
    (Instr.payloadSizeWrong 0x12#8 (List.replicate 201 0#8)).wellFormed = false := by decide +kernel
theorem test_payloadSizeWrong_wellFormed : (Instr.payloadSizeWrong 0x12#8 []).wellFormed = true := by decide
theorem test_playLoad_hundred_values_refused : (Instr.playLoad (List.replicate 100 0#16)).wellFormed = false := by decide
theorem test_playLoad_wellFormed : (Instr.playLoad (List.replicate 99 0#16)).wellFormed = true := by decide

/-! ### Requests and bytes -/

/-- No row of the table gives bits, so no word spells a row. -/
theorem test_decodeTableWord (nbits w : Nat) (s : State) :
    decodeTableWord nbits w = none ∧ s.withFetchWord nbits w = s := ⟨rfl, rfl⟩

/-- R171: an IDENTIFY request is A5 02 01 01 C4. -/
theorem test_identify_request_bytes : messageBytes 0x01#8 0x01#8 [] = [0xA5#8, 0x02#8, 0x01#8, 0x01#8, 0xC4#8] := by decide +kernel

/-- R171: a READY notice after a POWER reset is A5 03 03 01 00 92. -/
theorem test_ready_bytes : (OutMessage.ready .power).bytes = [0xA5#8, 3#8, 3#8, 1#8, 0#8, 0x92#8] := by decide +kernel

/-- R171: the register values of the two check bytes. -/
theorem test_crc_register :
    [crc [2#8], crc [2#8, 1#8], crc [2#8, 1#8, 1#8]] = [0x0E#8, 0x2D#8, 0xC4#8] ∧
      [crc [3#8], crc [3#8, 3#8], crc [3#8, 3#8, 1#8], crc [3#8, 3#8, 1#8, 0#8]] = [9#8, 0x36#8, 0x85#8, 0x92#8] := by
  decide +kernel

/-- R172: requests laid out by hand. -/
theorem test_requests_by_hand :
    encodeRequest (.format 2#8 16#8 16#8 32768#16 1#8) = some ⟨0x10#8, [2#8, 16#8, 16#8, 0x80#8, 0#8, 1#8]⟩ ∧
      encodeRequest (.setMask 1#8 1#8 0x0300000002#40) = some ⟨0x16#8, [1#8, 1#8, 2#8, 0#8, 0#8, 0#8, 3#8]⟩ ∧
      encodeRequest (.playLoad [100#16, 300#16]) = some ⟨0x48#8, [2#8, 0#8, 100#8, 1#8, 44#8]⟩ ∧
      decodeRequest 7 ⟨0x14#8, [3#8]⟩ = some (.txRun 7 3#8) ∧
      decodeRequest 0 ⟨0x06#8, []⟩ = some (.unknownCommand 0x06#8 []) ∧
      decodeRequest 0 ⟨0x48#8, [2#8, 0#8]⟩ = some (.payloadSizeWrong 0x48#8 [2#8, 0#8]) := by decide

/-- The conversions of sections 1.6 and 5.6. -/
theorem test_conversions :
    convert .w16 .w8 12345#16 = 48#16 ∧ convert .w16 .w8 40000#16 = 156#16 ∧ convert .w16 .w8 1000#16 = 3#16 ∧
      convert .w8 .w16 200#16 = 51200#16 ∧ convert .w16 .w8 51200#16 = 200#16 ∧ convert .w8 .w16 10#16 = 2560#16 := by
  decide

/-! ### Worked examples -/

/-- Section 1.2: the context holds source T4 with L 16 and destination T2. -/
def contextState : State :=
  State.modifyTrunk 4 (fun k => { k with format := { k.format with length := 16 } })
    { booted with link := { booted.link with contextSource := 4, contextDestination := 2 } }

theorem test_references_completed_by_context :
    leaves State.changes (.stageLink ⟨0xFF#8, 20#8⟩ ⟨0xFF#8, 3#8⟩) contextState =
        some [{ destination := ⟨2, 20⟩, entry := .link ⟨4, 3⟩, batch := none }] ∧
      reply (.stageLink ⟨0xFF#8, 20#8⟩ ⟨4#8, 18#8⟩) contextState = some (.reply 0x30#8 [0x04#8]) := by decide +kernel
theorem test_setContext_source_only :
    reply (.setContext 6#8 0xFF#8) contextState = some (.reply 0x03#8 [0#8, 6#8, 2#8]) := by decide +kernel
theorem test_getContext : reply .getContext contextState = some (.reply 0x04#8 [0#8, 4#8, 2#8]) := by decide +kernel

/-- Section 1.6: T2 before FORMAT, with slot 12 out of its receive mask. -/
def formatState : State :=
  let s := State.modifyTrunk 2 (fun k => { k with rxMask := { active := 0xFFEFFF#40, pending := 0xFFEFFF#40 } }) booted
  { s with
    map := (s.map.set 2 ((((((s.map[2].set 3 .hold).set 4 (.link ⟨2, 17⟩)).set 5 (.force 200#16)).set 9
      (.link ⟨7, 2⟩)).set 20 (.link ⟨4, 3⟩)).set 22 .play)).set 5
        ((s.map[5].set 7 (.link ⟨2, 18⟩)).set 8 (.link ⟨2, 9⟩))
    changes := [{ destination := ⟨6, 1⟩, entry := .link ⟨4, 0⟩, batch := none }] }

theorem test_format_narrows_and_widens :
    leaves (fun t => [⟨2, 3⟩, ⟨2, 4⟩, ⟨2, 5⟩, ⟨2, 9⟩, ⟨2, 20⟩, ⟨2, 22⟩, ⟨5, 7⟩, ⟨5, 8⟩].map t.entry)
        (.format 2#8 16#8 16#8 32768#16 1#8) formatState =
      some [.hold, .opened, .force 51200#16, .link ⟨7, 2⟩, .opened, .opened, .opened, .link ⟨2, 9⟩] ∧
    leaves (fun t => ((t.trunk 2).rxMask, (t.trunk 2).txMask.active, (t.trunk 2).format))
        (.format 2#8 16#8 16#8 32768#16 1#8) formatState =
      some ({ active := 0xEFFF#40, pending := 0xEFFF#40 }, 0xFFFF#40,
        { length := 16, width := .w16, idle := 32768#16, keepForced := true }) := by decide +kernel
theorem test_format_refused :
    reply (.format 5#8 32#8 8#8 0#16 0#8) (running 5 formatState) = some (.reply 0x10#8 [0x05#8]) ∧
      reply (.format 4#8 24#8 16#8 0#16 0#8) formatState = some (.reply 0x10#8 [0x0E#8]) ∧
      reply (.format 4#8 24#8 8#8 256#16 0#8) formatState = some (.reply 0x10#8 [0x04#8]) ∧
      reply (.format 3#8 41#8 8#8 0#16 0#8) formatState = some (.reply 0x10#8 [0x04#8]) := by decide +kernel

/-- Section 2.1: a frame of 192 bit times, with markers at 0, 150 and 342. -/
theorem test_hunting :
    leaves (fun t => ((t.trunk 3).rx.state, (t.trunk 3).rx.candidate)) (.rxRun 3#8) booted = some (.hunt, none) ∧
      leaves (fun t => (t.trunk 3).rx.candidate) (.huntMarker 3 0) (hunting 3 none booted) = some (some 0) ∧
      leaves (fun t => (t.trunk 3).rx.candidate) (.huntMarker 3 150) (hunting 3 (some 0) booted) = some (some 150) ∧
      leaves (fun t => ((t.trunk 3).rx.state, (t.trunk 3).store.filling)) (.huntMarker 3 342)
        (hunting 3 (some 150) booted) = some (.aligned, some []) := by decide +kernel

/-- A line that carries the byte 7 over and over: of each eight bit times, the last three are high. -/
def line7 : LineBits := (List.range 80).foldl (fun l n => l ||| (0xE0#640 <<< (8 * n))) 0#640

/-- A line with the first and the last bit times of slot 1 of width 8 high, which are also those of the upper half of slot 0's
lower byte at width 16. -/
def lineMarks : LineBits := 0x8100#640

/-- R22, R38: the first bit time of a slot carries the most significant bit. -/
theorem test_received_values :
    [receivedValue .w8 line7 0, receivedValue .w8 line7 39, receivedValue .w16 line7 0] = [7#16, 7#16, 0x0707#16] ∧
      [receivedValue .w8 lineMarks 0, receivedValue .w8 lineMarks 1, receivedValue .w8 lineMarks 2,
        receivedValue .w16 lineMarks 0] = [0#16, 0x81#16, 0#16, 0x0081#16] ∧
      receivedValue .w16 (1#640 <<< 624) 39 = 0x8000#16 := by decide +kernel

/-- R156: 0xA5 on the line is a start bit, 1 0 1 0 0 1 0 1, an even parity bit 0 and a stop bit; 0x07 has the parity bit 1. -/
theorem test_serial_frames :
    (serialFrame 0xA5#8).levels =
        [false, true, false, true, false, false, true, false, true, false, true] ∧
      (serialFrame 0x07#8).levels =
        [false, true, true, true, false, false, false, false, false, true, true] ∧
      (serialFrame 0x07#8).arrival false = some (.linkByteArrival 0x07#8 false false false) ∧
      (serialFrame 0x07#8 ^^^ 0x200#11).arrival false = some (.linkByteArrival 0x07#8 true false false) ∧
      (serialFrame 0x07#8 ^^^ 0x400#11).arrival true = some (.linkByteArrival 0x07#8 false true true) ∧
      SerialFrame.arrival 0x7FF#11 false = none := by decide +kernel

/-- R156, R171: the second byte of a READY notice begins in bit time 11, and after the sixth the output rests. -/
theorem test_transmit_levels :
    let s := sending .startUp [.ready .power] booted
    (List.range 11).map (fun n => s.transmitLevel (11 + n)) = (serialFrame 3#8).levels ∧
      s.transmitLevel 55 = !idleLevel ∧ s.transmitLevel 66 = idleLevel ∧ booted.transmitLevel 0 = idleLevel := by
  decide +kernel

theorem test_flywheel_completion :
    leaves (fun t => ((t.trunk 0).rx.missCount, (t.trunk 0).store.frames.map Frame.seq, (t.group 0).due.isSome))
      (.receiveFrameEnd 0 9000 false line7) locked = some (1, [0#16], true) := by decide +kernel
theorem test_third_miss :
    let u := State.loseAlignment 3 (aligned 3 [] 2#16 booted)
    ((u.trunk 3).rx, (u.trunk 3).store, u.attention.flags, u.attention.rxLoss) =
      ({ state := .hunt, candidate := none, missCount := 0, lossCount := 1#16 }, .empty, 0x1#12, 0x08#8) := by
  decide +kernel

/-- R77: a frame end of another member leaves a boundary waiting, so that the boundary finds the frame in the store. -/
theorem test_member_frame_end_before_boundary :
    leaves (fun t => ((t.group 0).due.isSome, (t.trunk 1).store.frames.length)) (.receiveFrameEnd 1 9000 true line7)
      (aligned 1 [] 0#16 lockedDue) = some (true, 1) := by decide +kernel

/-- R48: the first holdover boundary is the earliest whole period after the previous boundary, past the entry. -/
theorem test_holdover_entry :
    leaves (fun t => ((t.group 0).state, (t.group 0).generator, (t.group 0).graceTimer)) (.rxHold 9000 0#8) locked =
      some (.holdover, some 15600, some 50#16) := by decide +kernel

/-- Section 2.3: SET MASK on a section in RUN waits, and on a HELD one acts at once. -/
theorem test_setMask :
    leaves (fun t => (t.trunk 1).txMask) (.setMask 1#8 1#8 0x3FF#40) (running 1 booted) =
        some { active := 0xFFFFFF#40, pending := 0x3FF#40 } ∧
      leaves (fun t => (t.trunk 1).txMask) (.setMask 1#8 1#8 0x3FF#40) booted =
        some { active := 0x3FF#40, pending := 0x3FF#40 } := by decide +kernel

/-- Frames with these sequence numbers. -/
def numbered (l : List (BitVec 16)) : List Frame := l.map fun q => { seq := q, values := [] }

/-- A selection for G2 from a store, by the mark: the mark, repeat and drop counts after it. -/
def selection (frames : List (BitVec 16)) (mark : Option (BitVec 16)) : Option (BitVec 16) × BitVec 16 × BitVec 16 :=
  let p := Pair.select (State.trunk (aligned 6 (numbered frames) 0#16 booted) 6) { Pair.reset with mark := mark }
  (p.mark, p.repeats, p.drops)

/-- Section 4.7: the fast source T6 and the slow source T7, boundary by boundary. -/
theorem test_selections :
    [selection [0#16, 1#16] none, selection [0#16, 1#16, 2#16] (some 0#16), selection [3#16, 4#16, 5#16] (some 2#16),
        selection [4#16, 5#16, 6#16] (some 4#16)] =
      [(some 0#16, 0#16, 0#16), (some 1#16, 0#16, 0#16), (some 4#16, 0#16, 1#16), (some 5#16, 0#16, 0#16)] ∧
    [selection [0#16, 1#16, 2#16] none, selection [1#16, 2#16, 3#16] (some 2#16), selection [1#16, 2#16, 3#16] (some 3#16),
        selection [0#16] none] =
      [(some 1#16, 0#16, 0#16), (some 3#16, 0#16, 0#16), (some 3#16, 1#16, 0#16), (some 0#16, 0#16, 0#16)] := by
  decide +kernel

/-- Section 5.6: T1 with L 8, idle value 255 and the entries, last-sent values, mask and snapshots of the table. -/
def assemblyState : State :=
  let s := State.modifyTrunk 1 (fun k => { k with
      format := { length := 8, width := .w8, idle := 255#16, keepForced := false }
      txMask := { active := 0xBF#40, pending := 0xBF#40 }
      tx := { k.tx with
        state := .run
        startDue := true
        lastSent := ((((((k.tx.lastSent.set 0 (some 255#16)).set 1 (some 50#16)).set 2 (some 255#16)).set 3
          (some 100#16)).set 4 (some 77#16)).set 5 (some 12#16)).set 6 (some 90#16) } }) booted
  { group0 .locked none none none s with
    map := s.map.set 1 (((((((s.map[1].set 1 (.link ⟨3, 2⟩)).set 2 (.link ⟨5, 4⟩)).set 3 (.force 100#16)).set 4
      .hold).set 5 .play).set 6 .hold).set 7 .hold)
    pairs := s.pairs.set 0 (s.pairs[0].set 3
      { Pair.reset with snapshot := some { seq := 0#16, values := [0#16, 0#16, 12345#16], length := 3, width := .w16 } })
    playout := { s.playout with queue := [40000#16, 1000#16] } }

theorem test_assembly :
    leaves (fun t => ((t.trunk 1).tx.line.map LineFrame.slots, t.playout.queue)) (.transmitFrameStart 1) assemblyState =
      some (some [some 255#16, some 48#16, some 255#16, some 100#16, some 77#16, some 156#16, none, some 255#16],
        [1000#16]) := by decide +kernel
theorem test_assembly_muted :
    leaves (fun t => ((t.trunk 1).tx.line.map LineFrame.slots, t.playout.queue)) (.transmitFrameStart 1)
        (State.modifyGroup 0 (fun u => { u with state := .degraded, config := { u.config with policy := .mute } })
          assemblyState) =
      some (some [some 255#16, some 255#16, some 255#16, some 255#16, some 255#16, some 255#16, none, some 255#16],
        [40000#16, 1000#16]) := by decide +kernel

/-- Section 6.10: COMMIT with one destination trunk RUN and another HELD. -/
theorem test_commit :
    let s := running 1 { booted with
      nextBatch := 7#8
      changes := [{ destination := ⟨1, 0⟩, entry := .link ⟨5, 6⟩, batch := none },
        { destination := ⟨3, 1⟩, entry := .hold, batch := none }] }
    leaves (fun t => (t.changes, t.entry ⟨3, 1⟩, t.batch, t.nextBatch)) .commit s =
        some ([{ destination := ⟨1, 0⟩, entry := .link ⟨5, 6⟩, batch := some 7#8 }], .hold,
          some { id := 7#8, count := 2, remaining := 1 }, 8#8) ∧
      reply .commit s = some (.reply 0x37#8 [0#8, 7#8, 2#8, 1#8]) := by decide +kernel
theorem test_frame_start_applies_batch :
    leaves (fun t => (t.changes, t.entry ⟨0, 3⟩, t.batch, t.lastBatch)) (.transmitFrameStart 0) starting =
      some ([], .force 9#16, none, some { id := 1#8, applied := 1 }) := by decide +kernel

/-- Section 7.2: the captures of T3.5 at 16 bits, and the overflow at frame end 65. -/
theorem test_capture :
    leaves (fun t => (t.tap.queue, t.tap.remaining)) (.receiveFrameEnd 0 9000 true line7)
        (tapping (.frames 67#16) locked) = some ([1792#16], .frames 66#16) ∧
      leaves (fun t => (t.tap.queue.length, t.tap.overflow, t.log.records.length)) (.receiveFrameEnd 0 9000 true line7)
        { tapping .continuous locked with
          tap := { (tapping .continuous locked).tap with queue := List.replicate 64 0#16 } } =
        some (64, 1#8, 1) := by decide +kernel

/-- Section 7.4: PLAY LOAD of three values with 63 in the queue. -/
theorem test_playLoad_partial :
    reply (.playLoad [100#16, 200#16, 300#16])
        { booted with playout := { booted.playout with queue := List.replicate 63 0#16 } } =
      some (.reply 0x48#8 [0x01#8, 1#8, 64#8]) := by decide +kernel

/-- Section 8.7: a record with sixteen held overwrites the oldest, and LOG READ 8 then leaves eight. -/
theorem test_log_wrap :
    leaves (fun t => (t.log.records.map LogRecord.seq, t.log.next, t.attention.flags)) (.graceExpiry 0)
        { expiring with log := fullLog } =
      some ((List.range 16).map fun n => BitVec.ofNat 16 (41 + n), 57#16, 0x808#12) ∧
      leaves (fun t => (t.log.records.head?.map LogRecord.seq, t.log.records.length)) (.logRead 8#8)
        { booted with log := fullLog } = some (some 48#16, 8) := by decide +kernel

/-- Section 9.10: a request that completes while another waits in the buffer is dropped. -/
theorem test_busy_drop :
    leaves (fun t => (t.link.requestBuffer, t.link.discards[7], t.link.lastDiscard, t.link.outgoing.getLast?))
        .identify { answering with link := { answering.link with requestBuffer := some ⟨0x05#8, [0#8]⟩ } } =
      some (some ⟨0x05#8, [0#8]⟩, 1#16, some .busyDrop, some (.attention none)) := by decide +kernel
theorem test_request_waits :
    leaves (fun t => (t.link.requestBuffer, t.link.outgoing.length)) (.linkStatus 0#8) answering =
      some (some ⟨0x05#8, [0#8]⟩, 2) := by decide +kernel

/-- R169: what IDENTIFY reports; R101: MAP READ of T1 with first slot 20 and count 10 stops at slot 23. -/
theorem test_reports :
    reply .identify booted =
        some (.reply 0x01#8 [0#8, 0x3A#8, 0x71#8, 0x08#8, 0x40#8, 1#8, 8#8, 40#8, 4#8, 64#8, 64#8, 16#8]) ∧
      ((after (exec (.mapRead 1#8 1#8 20#8 10#8) booted)).bind fun t =>
        match t.link.outgoing.getLast? with
        | some (.reply _ p) => some (p.take 4 ++ [BitVec.ofNat 8 p.length])
        | _ => none) = some [0#8, 1#8, 4#8, 20#8, 31#8] := by decide +kernel

/-! ### The hypotheses of the statements are met -/

/-- A state with an empty request buffer, in operation, with nothing due and no reply waiting, is ready for any request. -/
theorem ready_of {s : State}
    (h : s.Settled ∧ s.link.phase = .operating ∧ s.link.requestBuffer = none ∧ s.replyWaiting = false) (r : Request) :
    s.Ready r :=
  ⟨h.1, h.2.1, .inl h.2.2.1, h.2.2.2⟩

theorem booted_ready (r : Request) : booted.Ready r := ready_of (by decide +kernel) r

theorem reset_entry (d : FullSlot) : State.reset.entry d = .opened := by
  obtain ⟨t, d⟩ := d
  revert t d
  decide +kernel

theorem booted_entry (d : FullSlot) : booted.entry d = .opened := reset_entry d

theorem reset_atReset : State.reset.AtReset .power :=
  ⟨by decide +kernel, by decide +kernel, by decide +kernel, reset_entry, by decide +kernel⟩

theorem booted_slotLaw : booted.SlotLaw :=
  ⟨by decide +kernel, fun d => by simp [booted_entry, State.namesExisting]⟩

theorem booted_onePlay : booted.OnePlay := fun d _ h => by
  rcases h with h | ⟨c, hc, _⟩
  · rw [booted_entry] at h; exact absurd h (by decide)
  · exact absurd hc (List.not_mem_nil)

theorem oneEntryEach_of_length {s : State} (h : s.changes.length ≤ 1) : s.OneEntryEach := fun _ =>
  ⟨(List.countP_le_length).trans h, (List.countP_le_length).trans h⟩

theorem witness_StepRunsFrontCommand :
    { booted with pending := [.getContext] }.pending = Instr.getContext :: [] ∧ booted.pending = [] := by decide
theorem witness_ResetsTakeEffect :
    State.reset.link.phase = .inReset .power ∧ Instr.getContext ≠ .powerOn ∧ Instr.getContext ≠ .resetInputAsserted ∧
      ∀ strap, Instr.getContext ≠ .startUp strap := by decide
theorem witness_FaultLogAcrossResets :
    (let s := sending .restarting [.reply 0x02#8 [0x00#8]] booted;
      s.Settled ∧ s.link.phase = .restarting ∧ s.link.outgoing = .reply 0x02#8 [0x00#8] :: []) ∧
    (State.reset.AtReset .power ∧ State.reset.log.records.length ≤ 16) ∧
    ({ State.reset with log := fullLog }.AtReset .power ∧ fullLog.records.length = 16) :=
  ⟨by decide +kernel, ⟨reset_atReset, by decide⟩, ⟨reset_atReset, by decide⟩⟩
theorem witness_MessageSentAndRestart :
    (let s := sending .startUp [.ready .power] booted;
      s.Settled ∧ s.link.outgoing = .ready .power :: [] ∧
        ¬(s.link.phase = .restarting ∧ OutMessage.ready .power = .reply 0x02#8 [0x00#8])) ∧
    booted.Ready ⟨0x02#8, []⟩ := ⟨by decide +kernel, booted_ready _⟩
/-- A notice waits behind a reply that is being sent. -/
def noticeBehind : State :=
  let s := sending .operating [.reply 0x22#8 [0x00#8], .attention none] booted
  { s with attention := { s.attention.raise (.slip 0) with noticeWaiting := true } }

theorem witness_EndOfEventQueuesAndSends :
    (booted.OutgoingLaw ∧ booted.attention.noticeWaiting = false ∧
      (booted.attention.raise .linkError).noticeWaiting = true ∧ booted.link.outgoing = []) ∧
    (let s := sending .operating [.ready .power] booted;
      s.OutgoingLaw ∧ s.attention.noticeWaiting = false ∧ (s.attention.raise .linkError).noticeWaiting = true ∧
        s.link.outgoing ≠ [] ∧ OutMessage.attention none ∉ s.link.outgoing ∧
        s.link.outgoing.head? ≠ some (.attention none)) ∧
    (sending .operating [.attention none] booted).link.outgoing = .attention none :: [] ∧
    (noticeBehind.OutgoingLaw ∧ noticeBehind.Settled ∧
      noticeBehind.link.outgoing = .reply 0x22#8 [0x00#8] :: .attention none :: [] ∧
      ¬(noticeBehind.link.phase = .restarting ∧ OutMessage.reply 0x22#8 [0x00#8] = .reply 0x02#8 [0x00#8])) := by
  decide +kernel

/-- R147: a waiting notice that comes to the head takes the set and the mask, and notice waiting becomes no. -/
theorem test_notice_sent_after_reply :
    leaves (fun t => (t.link.outgoing, t.attention.noticeWaiting)) (.messageSent false) noticeBehind =
      some ([.attention (some { Attention.reset.report with flags := 0x010#12, slip := 1#4 })], false) := by decide +kernel
theorem witness_RequestWaits :
    (Instr.linkStatus 0#8).wellFormed = true ∧ encodeRequest (.linkStatus 0#8) = some ⟨0x05#8, [0#8]⟩ ∧
      answering.Settled ∧ answering.OutgoingLaw ∧ answering.link.phase = .operating ∧
      answering.link.requestBuffer = none ∧ answering.replyWaiting = true := by decide +kernel
theorem witness_BusyRequestDropped :
    Instr.identify.wellFormed = true ∧ encodeRequest .identify = some ⟨0x01#8, []⟩ ∧
      (let s := sending .startUp [.ready .power] booted;
        s.Settled ∧ s.link.requestBuffer ≠ some ⟨0x01#8, []⟩ ∧ s.link.phase ≠ .operating) ∧
      (let s := { answering with link := { answering.link with requestBuffer := some ⟨0x05#8, [0#8]⟩ } };
        s.Settled ∧ s.link.requestBuffer ≠ some ⟨0x01#8, []⟩ ∧ s.link.requestBuffer ≠ none) := by decide +kernel
theorem witness_LinkAnswersUnknownAndBadLength :
    (∀ code ∈ [0x00#8, 0x06#8, 0x0F#8, 0x17#8, 0x1F#8, 0x25#8, 0x2A#8, 0x3B#8, 0x43#8, 0x4B#8, 0x53#8, 0x5A#8, 0xFF#8],
      knownCode code = false) ∧ booted.Ready ⟨0x06#8, [1#8]⟩ ∧
      (knownCode 0x12#8 = true ∧ payloadSizeRight 0x12#8 [] = false ∧ payloadSizeRight 0x12#8 [0#8, 0#8] = false ∧
        payloadSizeRight 0x48#8 [] = false ∧ payloadSizeRight 0x48#8 [1#8, 0#8] = false) ∧
      booted.Ready ⟨0x12#8, []⟩ :=
  ⟨by decide, booted_ready _, by decide, booted_ready _⟩
theorem witness_IdentifyAndLinkStatusReport :
    booted.Ready ⟨0x01#8, []⟩ ∧ (2 ≤ (2#8).toNat ∧ 2 ≤ (255#8).toNat) ∧ ∀ c, booted.Ready ⟨0x05#8, [c]⟩ :=
  ⟨booted_ready _, by decide, fun _ => booted_ready _⟩

/-- The receiver of the link in this state, holding these bytes, with this number expected. -/
def receiving (r : LinkRxState) (held : List Byte) (expected : Nat) : State :=
  { booted with link := { booted.link with
      receiver := { state := r, held := held, expected := expected, gap := some 0 } } }

theorem witness_ByteArrivals :
    booted.Settled ∧ (receiving .length [] 0).Settled ∧ (receiving .body [2#8] 2).Settled ∧
      (receiving .check [2#8, 1#8, 1#8] 0).Settled ∧
      (2 ≤ (2#8).toNat ∧ (202#8).toNat ≤ 202 ∧ ¬(2 ≤ (1#8).toNat) ∧ ¬((203#8).toNat ≤ 202)) := by decide +kernel
theorem witness_MessageCompletesOrTimesOut :
    (let s := { booted with link := { booted.link with completed := some [2#8, 1#8, 1#8, 0xC4#8] } };
      s.inReset = false ∧ s.link.completed = some (2#8 :: 1#8 :: 1#8 :: [] ++ [0xC4#8])) ∧
    (let s := { receiving .body [2#8] 1 with link := { (receiving .body [2#8] 1).link with
        receiver := { state := .body, held := [2#8], expected := 1, gap := some 21 } } };
      s.inReset = false ∧ s.link.receiver.gap = some 21 ∧ 21 ≤ 21) := by decide +kernel
theorem witness_ContextCommands :
    (∀ a b, booted.Ready ⟨0x03#8, [a, b]⟩) ∧ booted.Ready ⟨0x04#8, []⟩ ∧
      (8 ≤ (8#8).toNat ∧ 8#8 ≠ 0xFF#8) ∧ (8 ≤ (0xFE#8).toNat ∧ 0xFE#8 ≠ 0xFF#8) :=
  ⟨fun _ _ => booted_ready _, booted_ready _, by decide, by decide⟩
theorem witness_CheckByteIsRemainder :
    (booted.link.outgoing = [] ∧ (sending .startUp [.ready .power] booted).link.outgoing = .ready .power :: [] ∧
      (OutMessage.ready .power).bytes[5]? = some 0x92#8 ∧ 10 < 11 ∧ 11 * (OutMessage.ready .power).bytes.length ≤ 66) ∧
    ((0x7FF#11).getLsbD 0 = idleLevel ∧ (serialFrame 0xA5#8).getLsbD 0 = !idleLevel ∧
      ∀ n : Fin 8, (serialFrame 0xA5#8).getLsbD (n.val + 1) = (0xA5#8).getLsbD n.val) := by decide +kernel
theorem witness_WidthConversion : (255#16).toNat ≤ 255 ∧ (0#16).toNat ≤ 255 := by decide

/-- Whether FORMAT's operands are within their values, for boundary values of each. -/
theorem witness_FormatChecksInOrder_range :
    (∀ p ∈ [(8#8, 2#8, 8#8, 0#16, 0#8), (0#8, 1#8, 8#8, 0#16, 0#8), (0#8, 41#8, 8#8, 0#16, 0#8), (0#8, 2#8, 9#8, 0#16, 0#8),
        (0#8, 2#8, 8#8, 256#16, 0#8), (0#8, 2#8, 16#8, 0#16, 2#8)],
      ¬(p.1.toNat < 8 ∧ 2 ≤ p.2.1.toNat ∧ p.2.1.toNat ≤ 40 ∧
        ((p.2.2.1 = 8#8 ∧ p.2.2.2.1.toNat ≤ 255) ∨ p.2.2.1 = 16#8) ∧ p.2.2.2.2.toNat ≤ 1)) ∧
    (2 ≤ (2#8).toNat ∧ (40#8).toNat ≤ 40 ∧ (255#16).toNat ≤ 255 ∧ (1#8).toNat ≤ 1) ∧
    ∀ p, booted.Ready ⟨0x10#8, p⟩ := ⟨by simp, by decide, fun _ => booted_ready _⟩
theorem witness_FormatChecksInOrder_states :
    ((running 2 booted).Settled ∧ ((running 2 booted).trunk 2).tx.state ≠ .held) ∧
    (∃ c ∈ staged.changes, c.destination.trunk = 0) ∧
    ((tapping (.frames 3#16) booted).Settled ∧ (tapping (.frames 3#16) booted).tap.active = true ∧
      (tapping (.frames 3#16) booted).tap.source = some ⟨0, 5⟩) ∧
    (booted.SlotLaw ∧ booted.MaskLaw ∧ (booted.trunk 2).rx.state = .held ∧ (booted.trunk 2).tx.state = .held ∧
      (∀ c ∈ booted.changes, c.names 2 = false) ∧ booted.tapOn 2 = false ∧
      (booted.trunk 2).format.width.holds (booted.trunk 2).format.idle = true) :=
  ⟨by decide +kernel, by decide, by decide +kernel, booted_slotLaw, by decide +kernel⟩
theorem witness_FormatEffects :
    2 ≤ (16#8).toNat ∧ (16#8).toNat ≤ 40 ∧ (formatState.trunk 2).rx.state = .held ∧ (formatState.trunk 2).tx.state = .held ∧
      (∀ c ∈ formatState.changes, c.names 2 = false) ∧ formatState.tapOn 2 = false ∧ formatState.Settled ∧
      formatState.link.phase = .operating ∧ formatState.link.requestBuffer = none ∧ formatState.replyWaiting = false := by
  decide +kernel
theorem witness_RxRunStartsSearch :
    (∀ a, booted.Ready ⟨0x12#8, [a]⟩) ∧ (hunting 0 none booted).Settled ∧ 8 ≤ (8#8).toNat ∧
      (booted.trunk 0).rx.state = .held ∧ ((hunting 0 none booted).trunk 0).rx.state ≠ .held :=
  ⟨fun _ => booted_ready _, by decide +kernel⟩
theorem witness_RxHoldStopsReceiving (r : Request) :
    (locked.Ready r ∧ (locked.group (locked.trunk 0).group).due = none ∧ (locked.trunk 0).rx.state = .aligned ∧
      (locked.group 0).state = .locked) ∧
    (onStandby.Ready r ∧ (onStandby.group (onStandby.trunk 1).group).due = none ∧ (onStandby.trunk 1).rx.state = .aligned ∧
      (onStandby.group 0).state = .standby) ∧
    booted.Ready r ∧ 8 ≤ (8#8).toNat :=
  ⟨⟨ready_of (by decide +kernel) r, by decide +kernel⟩, ⟨ready_of (by decide +kernel) r, by decide +kernel⟩,
    booted_ready r, by decide⟩
theorem witness_TxRunStartsSectionAndGroup (r : Request) :
    (booted.Ready r ∧ (booted.trunk 0).tx.state = .held ∧ (booted.group 0).state = .stopped) ∧
    (let s := group0 .stopped none none none (aligned 0 [] 0#16 booted);
      s.Ready r ∧ (s.trunk 2).tx.state = .held ∧ (s.group 0).config.primary = some 0) ∧
    (locked.Ready r ∧ (locked.trunk 0).tx.state = .run ∧ (locked.trunk 2).tx.state = .held) ∧ 8 ≤ (8#8).toNat :=
  ⟨⟨booted_ready r, by decide +kernel⟩, ⟨ready_of (by decide +kernel) r, by decide +kernel⟩,
    ⟨ready_of (by decide +kernel) r, by decide +kernel⟩, by decide⟩

theorem starting_batchLaw : starting.BatchLaw := by
  show _ ∧ _ ∧ _
  decide

theorem witness_TxHoldStopsTransmitting (r : Request) :
    starting.Ready r ∧ starting.BatchLaw ∧ starting.OneEntryEach ∧ (starting.group (starting.trunk 0).group).due = none ∧
      8 ≤ (8#8).toNat :=
  ⟨ready_of (by decide +kernel) r, starting_batchLaw, oneEntryEach_of_length (by decide), by decide +kernel⟩
theorem witness_SetMaskWritesPending (r : Request) :
    booted.Ready r ∧ (∀ d : SlotId, inSet 0xFFFFFF#40 d = true → d.val < (booted.trunk 0).format.length) ∧
      (inSet 0x1000000#40 24 = true ∧ (booted.trunk 0).format.length ≤ 24) ∧ (8 ≤ (8#8).toNat ∧ 2 ≤ (2#8).toNat) :=
  ⟨booted_ready r, by decide +kernel, by decide +kernel, by decide⟩
theorem witness_GroupMoveMovesTrunk (r : Request) :
    booted.Ready r ∧ locked.Ready r ∧ (locked.trunk 0).tx.state ≠ .held ∧ (locked.group 0).config.primary = some 0 ∧
      (8 ≤ (8#8).toNat ∧ 4 ≤ (4#8).toNat) :=
  ⟨booted_ready r, ready_of (by decide +kernel) r, by decide +kernel⟩
theorem witness_GroupSetReplacesRecord (r : Request) :
    booted.Ready r ∧ (booted.group 0).state = .stopped ∧ (1 ≤ (1#16).toNat ∧ (2000#16).toNat ≤ 2000) ∧
      (locked.Ready r ∧ (locked.group 0).state ≠ .stopped) ∧
      ((8 ≤ (8#8).toNat ∧ 8#8 ≠ 0xFF#8) ∧ (8 ≤ (0xFE#8).toNat ∧ 0xFE#8 ≠ 0xFF#8) ∧ 4 ≤ (4#8).toNat) :=
  ⟨booted_ready r, by decide +kernel, by decide, ⟨ready_of (by decide +kernel) r, by decide +kernel⟩, by decide⟩
theorem witness_RevertReturnsToLocked (r : Request) :
    (booted.Ready r ∧ (booted.group 0).state ≠ .standby) ∧
    (let s := State.modifyTrunk 0 (fun k => { k with rx := .reset }) onStandby;
      s.Ready r ∧ (s.group 0).state = .standby ∧
        ∀ k : TrunkId, (s.group 0).config.primary = some k → (s.trunk k).rx.state ≠ .aligned) ∧
    (onStandby.Ready r ∧ (onStandby.group 0).state = .standby ∧ (onStandby.group 0).due = none ∧
      (onStandby.group 0).config.primary = some 0 ∧ (onStandby.trunk 0).rx.state = .aligned) ∧ 4 ≤ (4#8).toNat :=
  ⟨⟨booted_ready r, by decide +kernel⟩, ⟨ready_of (by decide +kernel) r, by decide +kernel⟩,
    ⟨ready_of (by decide +kernel) r, by decide +kernel⟩, by decide⟩
theorem witness_ClearingCommands_StatusReports (r : Request) :
    booted.Ready r ∧ 4 ≤ (4#8).toNat ∧ (8 ≤ (8#8).toNat ∧ 8#8 ≠ 0xFF#8) ∧ (8 ≤ (0xFE#8).toNat ∧ 0xFE#8 ≠ 0xFF#8) ∧
      2 ≤ (2#8).toNat := ⟨booted_ready r, by decide⟩
theorem witness_HoldoverEntry :
    ((locked.group 0).lastLocked ≠ some 0#16 ∧ (locked.group 0).previous = some { time := 600, cause := some 0 } ∧
      600 ≤ 600 ∧ 600 ≤ 9000) ∧
    ((booted.group 0).lastLocked ≠ some 0#16 ∧ (booted.group 0).previous = none) := by decide +kernel
theorem witness_BoundariesAreTaken :
    (lockedDue.Settled ∧ (lockedDue.group 0).due = some { time := 8100, cause := some 0 } ∧
      ∀ t : TrunkId, (lockedDue.trunk t).runMember 0 = true → (lockedDue.trunk t).tx.startDue = false) ∧
    (expiring.Settled ∧ (expiring.group 0).generator = some 15000 ∧
      ∀ t : TrunkId, (expiring.trunk t).runMember 0 = true → (expiring.trunk t).tx.startDue = false) := by decide +kernel
theorem witness_SelectionFollowsLag :
    (booted.trunk 0).rx.state ≠ .aligned ∧ (locked.trunk 0).rx.state = .aligned ∧ (locked.trunk 0).store.frames = [] ∧
      ((aligned 6 (numbered [3#16, 4#16, 5#16]) 6#16 booted).trunk 6).rx.state = .aligned ∧
      ((aligned 6 (numbered [3#16, 4#16, 5#16]) 6#16 booted).trunk 6).store.frames =
        numbered [3#16, 4#16] ++ [{ seq := 5#16, values := [] }] := by decide +kernel

/-- R72, R73: a pair slips at lags 0, 3 and 4, and not at 1 and 2, nor without a mark. -/
theorem test_slips :
    let k := (aligned 6 (numbered [3#16, 4#16, 5#16]) 6#16 booted).trunk 6
    [some 5#16, some 4#16, some 3#16, some 2#16, some 1#16, none].map
        (fun m => Pair.slips k { Pair.reset with mark := m }) = [true, false, false, true, true, false] := by
  decide +kernel
theorem witness_MarkerAlignsOrBecomesCandidate :
    (booted.Settled ∧ (booted.trunk 3).rx.state ≠ .hunt) ∧
    (let s := hunting 3 (some 0) booted;
      s.Settled ∧ (s.trunk 3).rx.state = .hunt ∧ (s.trunk 3).rx.candidate = some 0 ∧
        191 ≠ 0 + (s.trunk 3).format.length * (s.trunk 3).format.width.bits ∧
        192 = 0 + (s.trunk 3).format.length * (s.trunk 3).format.width.bits) ∧
    (let s := hunting 3 none booted;
      s.Settled ∧ (s.trunk 3).rx.state = .hunt ∧
        ∀ c, (s.trunk 3).rx.candidate = some c →
          0 ≠ c + (s.trunk 3).format.length * (s.trunk 3).format.width.bits) :=
  ⟨by decide +kernel, by decide +kernel, by decide +kernel, by decide +kernel, fun _ h => nomatch h⟩
theorem witness_FrameEndCompletesFrame :
    locked.Settled ∧ (locked.trunk 0).rx.state = .aligned ∧ (locked.trunk 0).rx.missCount ≤ 1 ∧
      (locked.group (locked.trunk 0).group).due = none := by decide +kernel
theorem witness_FrameEndCaptures :
    let s := { tapping .continuous locked with
      tap := { (tapping .continuous locked).tap with queue := List.replicate 64 0#16 } }
    (s.Settled ∧ (s.trunk 0).rx.state = .aligned ∧ (s.trunk 0).rx.missCount ≤ 1 ∧
      (s.group (s.trunk 0).group).due = none ∧ s.tap.active = true ∧ s.tap.source = some ⟨0, 5⟩ ∧
      5 < (s.trunk 0).format.length ∧ 64 ≤ s.tap.queue.length ∧ s.tap.dropLogged = false) ∧
    (tapping .continuous locked).tap.queue.length < 64 ∧ ¬(locked.tap.active = true) := by decide +kernel
theorem witness_LossOfAlignment :
    let s := State.modifyTrunk 0 (fun k => { k with rx := { k.rx with missCount := 2 } }) locked
    s.Settled ∧ (s.trunk 0).rx.state = .aligned ∧ 2 ≤ (s.trunk 0).rx.missCount ∧
      (s.group (s.trunk 0).group).due = none := by decide +kernel

theorem starting_onePlay : starting.OnePlay := fun d _ h => by
  have hd : starting.entry d = .opened := by
    obtain ⟨t, d⟩ := d
    revert t d
    decide +kernel
  rcases h with h | ⟨c, hc, _, h⟩
  · rw [hd] at h; exact absurd h (by decide)
  · rw [List.mem_singleton.mp hc] at h; exact absurd h (by decide)

theorem witness_TransmitFrameStart :
    (starting.Settled ∧ (starting.trunk 0).tx.state = .run ∧ (starting.trunk 0).tx.startDue = true) ∧
      starting.BatchLaw ∧ starting.OneEntryEach ∧ starting.OnePlay :=
  ⟨by decide +kernel, starting_batchLaw, oneEntryEach_of_length (by decide), starting_onePlay⟩
theorem witness_MillisecondStepAdvancesTimers : expiring.Settled := by decide +kernel
theorem expiring_batchLaw : expiring.BatchLaw := by
  show _ = 0
  decide
theorem witness_GraceExpiryTakesFirstCase :
    (expiring.Settled ∧ (expiring.group 0).state = .holdover ∧ (expiring.group 0).graceTimer = some 0#16 ∧
      expiring.TimingLaw) ∧ expiring.BatchLaw ∧ expiring.OneEntryEach ∧
    (expiring.group 0).config.policy ≠ .stop ∧ (expiring.group 0).config.standby = some 1 ∧
    (expiring.trunk 1).rx.state ≠ .aligned ∧ ((aligned 1 [] 0#16 expiring).trunk 1).rx.state = .aligned :=
  ⟨by decide +kernel, expiring_batchLaw, oneEntryEach_of_length (by decide), by decide +kernel⟩
theorem witness_MapReadReportsEntries (r : Request) :
    booted.Ready r ∧ (1#8).toNat ≤ 1 ∧ 1 ≤ (1#8).toNat ∧ (20#8).toNat ≤ 20 ∧ (23#8).toNat < (booted.trunk 1).format.length ∧
      (2 ≤ (2#8).toNat ∧ 21 ≤ (21#8).toNat ∧ (booted.trunk 1).format.length ≤ (24#8).toNat ∧
        (8 ≤ (8#8).toNat ∧ 8#8 ≠ 0xFF#8)) ∧
      (∀ c ∈ booted.changes, c.destination = ⟨0, 3⟩ → c.batch ≠ none) ∧
      (∀ c ∈ starting.changes, c.destination = ⟨0, 3⟩ → c.batch ≠ none) ∧ starting.OneEntryEach ∧
      (∃ c ∈ starting.changes, c.destination = ⟨0, 3⟩) ∧
      (staged.OneEntryEach ∧ ∃ c ∈ staged.changes, c.destination = ⟨0, 3⟩ ∧ c.batch = none) :=
  ⟨booted_ready r, by decide, by decide, by decide, by decide +kernel, by decide +kernel, by decide, by decide,
    oneEntryEach_of_length (by decide), by decide, oneEntryEach_of_length (by decide), by decide⟩

/-- The staged entries of 64 slots. -/
def fullList : State :=
  { booted with changes := (List.range 64).map fun n =>
      { destination := ⟨Fin.ofNat 8 (n / 16), Fin.ofNat 40 (n % 16)⟩, entry := .hold, batch := none } }

theorem witness_StagingPlacesEntry (r : Request) :
    (staged.Ready r ∧ staged.PassesStaging (.stageOpen ⟨0#8, 3#8⟩) ⟨0, 3⟩ .opened ∧
      staged.changes = [] ++ { destination := ⟨0, 3⟩, entry := .force 9#16, batch := none } :: []) ∧
    (booted.Ready r ∧ booted.PassesStaging (.stageLink ⟨0xFF#8, 23#8⟩ ⟨7#8, 0#8⟩) ⟨0, 23⟩ (.link ⟨7, 0⟩) ∧
      booted.PassesStaging (.stageForce ⟨1#8, 0#8⟩ 255#16) ⟨1, 0⟩ (.force 255#16) ∧
      booted.PassesStaging (.stageHold ⟨1#8, 0#8⟩) ⟨1, 0⟩ .hold ∧
      booted.PassesStaging (.stagePlay ⟨1#8, 0#8⟩) ⟨1, 0⟩ .play) ∧
    (fullList.Ready r ∧ fullList.PassesStaging (.stageOpen ⟨7#8, 0#8⟩) ⟨7, 0⟩ .opened ∧ fullList.changes.length = 64 ∧
      ∀ c ∈ fullList.changes, ¬(c.batch = none ∧ c.destination = ⟨7, 0⟩)) := by
  refine ⟨⟨ready_of (by decide +kernel) r, ⟨by decide +kernel, rfl⟩, by decide⟩, ⟨booted_ready r, ⟨by decide +kernel, ⟨7, 0⟩,
    by decide +kernel, rfl, .inr (by decide +kernel)⟩, ⟨by decide +kernel, rfl, by decide⟩, ⟨by decide +kernel, rfl⟩,
    ⟨by decide +kernel, rfl, fun d _ h => ?_⟩⟩, ⟨ready_of (by decide +kernel) r, ⟨by decide +kernel, rfl⟩, by decide +kernel⟩⟩
  rcases h with h | ⟨c, hc, _⟩
  · rw [booted_entry] at h; exact absurd h (by decide)
  · exact absurd hc (List.not_mem_nil)

/-- Section 5.7: T0.5 is linked from T1.0 to T1.11. -/
def fanned : State :=
  { booted with map := booted.map.set 1 ((List.finRange 12).foldl
      (fun m n => m.set (n.val + 0) (.link ⟨0, 5⟩)) booted.map[1]) }

theorem test_fanout_limit :
    reply (.stageLink ⟨2#8, 1#8⟩ ⟨0#8, 5#8⟩) fanned = some (.reply 0x30#8 [0x09#8]) ∧
      reply (.stageOpen ⟨1#8, 0#8⟩) fanned = some (.reply 0x31#8 [0#8, 1#8, 0#8, 0#8, 0#8]) := by decide +kernel

/-- T3.0 is PLAY in the active map. -/
def playing : State := { booted with map := booted.map.set 3 (booted.map[3].set 0 .play) }

/-- Section 5.8: a second PLAY destination is refused. -/
theorem test_play_taken : reply (.stagePlay ⟨4#8, 0#8⟩) playing = some (.reply 0x34#8 [0x0A#8]) := by decide +kernel

theorem names_range {context : TrunkId} {r : SlotRef} {d : FullSlot} (h : SlotRef.Names context r d) :
    r.slot.toNat = d.slot.val := by
  rw [h.2]
  have := d.slot.isLt
  simp only [natByte, BitVec.toNat_ofNat]
  omega

theorem not_destination : ¬∃ d, booted.DestinationIs ⟨0#8, 24#8⟩ d := by
  rintro ⟨d, hn, he⟩
  have hs := names_range hn
  have ht : ∀ t : TrunkId, (booted.trunk t).format.length = 24 := by decide +kernel
  simp [State.exists, ht, ← hs] at he

theorem not_source : ¬∃ d, booted.SourceIs ⟨0#8, 24#8⟩ d := not_destination

theorem witness_StagingRefusals (r : Request) :
    booted.Ready r ∧ (¬∃ d, booted.DestinationIs ⟨0#8, 24#8⟩ d) ∧ (¬∃ d, booted.SourceIs ⟨0#8, 24#8⟩ d) ∧
      (booted.DestinationIs ⟨0#8, 23#8⟩ ⟨0, 23⟩ ∧ (booted.trunk 0).format.width = .w8 ∧ 256 ≤ (256#16).toNat) ∧
      (fanned.Ready r ∧ fanned.DestinationIs ⟨2#8, 0#8⟩ ⟨2, 0⟩ ∧ fanned.SourceIs ⟨0#8, 5#8⟩ ⟨0, 5⟩ ∧
        fanned.projected ⟨2, 0⟩ ≠ .link ⟨0, 5⟩ ∧ fanned.fanout ⟨0, 5⟩ = 12) ∧
      (playing.Ready r ∧ playing.DestinationIs ⟨4#8, 0#8⟩ ⟨4, 0⟩ ∧ playing.PlayIn ⟨3, 0⟩) :=
  ⟨booted_ready r, not_destination, not_source, by decide +kernel, ⟨ready_of (by decide +kernel) r, by decide +kernel⟩,
    ⟨ready_of (by decide +kernel) r, by decide +kernel, .inl (by decide +kernel)⟩⟩

/-- `fanned`, with T1.0 staged OPEN and T2.0 staged as a link of T0.5. -/
def fannedStaged : State :=
  { fanned with changes := [{ destination := ⟨1, 0⟩, entry := .opened, batch := none },
      { destination := ⟨2, 0⟩, entry := .link ⟨0, 5⟩, batch := none }] }

theorem witness_UnstageAndDiscard (r : Request) :
    (booted.Ready r ∧ (¬∃ d, booted.DestinationIs ⟨0#8, 24#8⟩ d) ∧ booted.DestinationIs ⟨0#8, 3#8⟩ ⟨0, 3⟩ ∧
      ∀ c ∈ booted.changes, c.destination = ⟨0, 3⟩ → c.batch ≠ none) ∧
    (staged.Ready r ∧ staged.DestinationIs ⟨0#8, 3#8⟩ ⟨0, 3⟩ ∧ staged.OneEntryEach ∧
      staged.changes = [] ++ { destination := ⟨0, 3⟩, entry := .force 9#16, batch := none } :: [] ∧
      { staged with changes := [] }.projected ⟨0, 3⟩ = .opened) ∧
    (fannedStaged.Ready r ∧ fannedStaged.DestinationIs ⟨1#8, 0#8⟩ ⟨1, 0⟩ ∧
      let v := { fannedStaged with changes := [{ destination := ⟨2, 0⟩, entry := .link ⟨0, 5⟩, batch := none }] }
      v.projected ⟨1, 0⟩ = .link ⟨0, 5⟩ ∧ 12 < v.fanout ⟨0, 5⟩) :=
  ⟨⟨booted_ready r, not_destination, by decide +kernel, by decide⟩,
    ⟨ready_of (by decide +kernel) r, by decide +kernel, oneEntryEach_of_length (by decide), by decide, by decide +kernel⟩,
    ⟨ready_of (by decide +kernel) r, by decide +kernel, by decide +kernel⟩⟩
theorem staged_batchLaw : staged.BatchLaw := by
  show _ = 0
  decide
theorem booted_batchLaw : booted.BatchLaw := by
  show _ = 0
  decide
theorem witness_CommitPutsInFlight (r : Request) :
    (starting.Ready r ∧ starting.BatchLaw ∧ starting.OneEntryEach ∧ starting.batch ≠ none) ∧
    (booted.Ready r ∧ booted.BatchLaw ∧ booted.OneEntryEach ∧ booted.batch = none ∧ booted.changes = []) ∧
    (staged.Ready r ∧ staged.BatchLaw ∧ staged.OneEntryEach ∧ staged.batch = none ∧ staged.changes ≠ []) :=
  ⟨⟨ready_of (by decide +kernel) r, starting_batchLaw, oneEntryEach_of_length (by decide), by decide⟩,
    ⟨booted_ready r, booted_batchLaw, oneEntryEach_of_length (by decide), by decide⟩,
    ⟨ready_of (by decide +kernel) r, staged_batchLaw, oneEntryEach_of_length (by decide), by decide⟩⟩
theorem witness_ApplicationKeepsProjectedMap : starting.BatchLaw ∧ starting.OneEntryEach :=
  ⟨starting_batchLaw, oneEntryEach_of_length (by decide)⟩
theorem witness_BatchAndListReports (r : Request) :
    booted.Ready r ∧ (63#8).toNat ≤ 63 ∧ 1 ≤ (1#8).toNat ∧ (16#8).toNat ≤ 16 ∧ 64 ≤ (64#8).toNat ∧ 17 ≤ (17#8).toNat :=
  ⟨booted_ready r, by decide⟩
theorem witness_TapRuns (r : Request) :
    booted.Ready r ∧ (¬∃ d, booted.SourceIs ⟨0#8, 24#8⟩ d) ∧ booted.SourceIs ⟨0#8, 23#8⟩ ⟨0, 23⟩ ∧
      ((tapping .continuous booted).Ready r ∧ (tapping .continuous booted).tap.active = true) ∧
      ((tapping (.frames 0#16) booted).inReset = false ∧ (tapping (.frames 0#16) booted).tap.active = true ∧
        (tapping (.frames 0#16) booted).tap.remaining = .frames 0#16) :=
  ⟨booted_ready r, not_source, by decide +kernel, ⟨ready_of (by decide +kernel) r, by decide⟩, by decide⟩
theorem witness_ReadsRemoveOldest (r : Request) :
    booted.Ready r ∧ 1 ≤ (1#8).toNat ∧ (16#8).toNat ≤ 16 ∧ 17 ≤ (17#8).toNat ∧ (8#8).toNat ≤ 8 ∧ 9 ≤ (9#8).toNat :=
  ⟨booted_ready r, by decide⟩
theorem witness_PlayoutCommands (r : Request) :
    booted.Ready r ∧ booted.OnePlay ∧ (1 ≤ [0#16].length ∧ (List.replicate 32 0#16).length ≤ 32) ∧
      33 ≤ (List.replicate 33 0#16).length ∧ 2 ≤ (2#8).toNat :=
  ⟨booted_ready r, booted_onePlay, by decide, by decide, by decide⟩
theorem witness_AttentionCommands (r : Request) :
    booted.Ready r ∧ (0xFFF#16).toNat < 4096 ∧ 4096 ≤ (0x1000#16).toNat := ⟨booted_ready r, by decide⟩
theorem witness_RaisingsAndRecords :
    booted.log.records.length < 16 ∧
      { booted with log := fullLog }.log.records = fullLog.records.head (by decide) :: fullLog.records.tail ∧
      fullLog.records.tail.length = 15 := by decide
theorem witness_DueEventsComeFirst_settle :
    let s := tapping (.frames 0#16) booted
    Instr.getContext.wellFormed = true ∧ s.inReset = false ∧ ¬s.Settled ∧ Instr.getContext ≠ .tapRunEnd ∧
      Instr.getContext ≠ .messageComplete ∧ Instr.getContext ≠ .interByteTimeout ∧ Instr.getContext ≠ .powerOn ∧
      Instr.getContext ≠ .resetInputAsserted ∧ ∀ strap, Instr.getContext ≠ .startUp strap := by decide +kernel
theorem witness_DueEventsComeFirst_boundary (r : Request) :
    (lockedDue.Settled ∧ (lockedDue.group (lockedDue.trunk 0).group).due ≠ none ∧
      (lockedDue.trunk 0).rx.state = .aligned ∧ (lockedDue.trunk 0).rx.missCount ≤ 1 ∧
      (lockedDue.group 0).follows 0 = true ∧ lockedDue.lastRunMember 0 = true) ∧ lockedDue.Ready r ∧
    (let s := State.modifyTrunk 0 (fun k => { k with rx := { k.rx with missCount := 2 } }) lockedDue;
      s.Settled ∧ (s.group (s.trunk 0).group).due ≠ none ∧ (s.trunk 0).rx.state = .aligned ∧
        2 ≤ (s.trunk 0).rx.missCount) ∧
    (let s := State.modifyGroup 0 (fun u => { u with due := some { time := 9000, cause := some 1 } }) onStandby;
      s.Ready r ∧ (s.group 0).due ≠ none ∧ (s.group 0).state = .standby ∧ s.primaryAligned 0 = true) ∧
    (starting.Settled ∧ (starting.trunk 0).runMember 0 = true ∧ (starting.trunk 0).tx.startDue = true ∧
      ∀ t' : TrunkId, t' < 0 → (starting.trunk t').runMember 0 = true → (starting.trunk t').tx.startDue = false) ∧
    ((after (exec (.groupBoundary 0) lockedDue)).isSome = true ∧ (after (exec (.transmitFrameStart 0) starting)).isSome = true) :=
  ⟨by decide +kernel, ready_of (by decide +kernel) r, by decide +kernel,
    ⟨ready_of (by decide +kernel) r, by decide +kernel⟩, by decide +kernel, by decide +kernel⟩
theorem witness_RequestsRoundTrip :
    (Instr.playLoad (List.replicate 99 0xFFFF#16)).wellFormed = true ∧
      (encodeRequest (.playLoad (List.replicate 99 0xFFFF#16))).isSome = true ∧
      (List.replicate 200 0#8).length ≤ 200 := by decide +kernel

/-! ### The laws hold in a state with something in every part, and a step goes on from it -/

theorem reset_step : step State.reset = .next State.reset := rfl
theorem witness_StepKeeps_simple :
    State.reset.Bounded ∧ State.reset.FlagsMatchSets ∧ State.reset.OutgoingLaw ∧ State.reset.TimingLaw ∧
      State.reset.FollowLaw ∧ State.reset.FlightLaw ∧ State.reset.MaskLaw := by decide +kernel
theorem witness_StepKeeps_running :
    locked.Bounded ∧ locked.FlagsMatchSets ∧ locked.OutgoingLaw ∧ locked.TimingLaw ∧ locked.FollowLaw ∧
      locked.FlightLaw ∧ locked.MaskLaw := by decide +kernel
theorem witness_StepKeepsMarksUnset : locked.TimingLaw ∧ locked.MarkLaw := by decide +kernel
theorem witness_StepKeepsBatchLaws : starting.BatchLaw ∧ starting.OneEntryEach ∧ starting.FlightLaw :=
  ⟨starting_batchLaw, oneEntryEach_of_length (by decide), by decide +kernel⟩
/-- A trunk's part of the law of values. -/
theorem valueLaw_of {s : State} (ht : ∀ t : TrunkId,
      (s.trunk t).format.width.holds (s.trunk t).format.idle = true ∧ (∀ d : SlotId, (s.trunk t).tx.lastSent[d] = none) ∧
        (s.trunk t).store.frames = [] ∧ (s.trunk t).tx.line = none)
    (hp : ∀ (g : GroupId) (t : TrunkId), (s.pair g t).snapshot = none) (he : ∀ d : FullSlot, s.entry d = .opened)
    (hc : s.changes = []) : s.ValueLaw := by
  refine ⟨fun t => ?_, fun g t => ?_, fun d => ?_, ?_⟩
  · obtain ⟨hi, hl, hf, hn⟩ := ht t
    exact ⟨hi, fun d v hv => by simp [hl d] at hv, fun _ => hl, fun f h => by simp [hf] at h, fun l h => by simp [hn] at h⟩
  · simp [hp g t]
  · rw [he d]; rfl
  · simp [hc]

theorem reset_valueLaw : State.reset.ValueLaw :=
  valueLaw_of (by decide +kernel) (by decide +kernel) reset_entry rfl
theorem reset_storeLaw : State.reset.StoreLaw := by decide +kernel
theorem witness_StepKeepsStoresAndSlots :
    (locked.MaskLaw ∧ locked.StoreLaw) ∧ booted.SlotLaw ∧ (State.reset.MaskLaw ∧ State.reset.StoreLaw ∧
      State.reset.ValueLaw) :=
  ⟨by decide +kernel, booted_slotLaw, by decide +kernel, reset_storeLaw, reset_valueLaw⟩
theorem witness_StepKeepsTimingLaws_clock : (State.advance 600 locked).ClockLaw := by decide +kernel
theorem booted_fanoutLaw : booted.FanoutLaw := fun source => by
  have h (d : FullSlot) : booted.projected d = .opened := booted_entry d
  have hu (d : FullSlot) : booted.unstaged.projected d = .opened := booted_entry d
  have hl : (MapEntry.opened == .link source) = false := rfl
  simp [State.fanout, h, hu, hl]
theorem witness_StepKeepsMapLaws : booted.OnePlay ∧ booted.OneEntryEach ∧ booted.BatchLaw ∧ booted.FanoutLaw :=
  ⟨booted_onePlay, oneEntryEach_of_length (by decide), booted_batchLaw, booted_fanoutLaw⟩

end Sys2Proof.Tests
end

section
/-! SUPPORT and PROOFS. The addressing context and width conversion (R6, R7, R9): what an operand that names a trunk or
carries the mark 0xFF is read as, what SET CONTEXT and GET CONTEXT answer, and width conversion as arithmetic. -/

namespace Sys2Proof.Machine

/-! ### Trunk operands (R172) -/

@[simp] theorem trunkByte_toNat (t : TrunkId) : (trunkByte t).toNat = t.val := by
  simp only [trunkByte, natByte, BitVec.toNat_ofNat]
  omega

@[simp] theorem trunk?_trunkByte (t : TrunkId) : trunk? (trunkByte t) = some t := by
  simp [trunk?]

theorem trunk?_eq_none_iff {b : Byte} : trunk? b = none ↔ 8 ≤ b.toNat := by
  simp [trunk?]

/-- The number of a trunk is never the mark. -/
theorem trunkByte_ne_mark (t : TrunkId) : trunkByte t ≠ 0xFF#8 := by
  intro h
  have hn : t.val = 255 := by simpa using congrArg BitVec.toNat h
  omega

/-- The byte of a trunk or of the mark is read as that trunk or mark. -/
@[simp] theorem trunkOrMark?_referenceByte (reference : Option TrunkId) :
    trunkOrMark? (referenceByte reference) = some reference := by
  cases reference with
  | none => rfl
  | some t => simp [referenceByte, trunkOrMark?, trunkByte_ne_mark]

theorem trunkOrMark?_eq_none_iff {b : Byte} : trunkOrMark? b = none ↔ 8 ≤ b.toNat ∧ b ≠ 0xFF#8 := by
  by_cases hb : b = 0xFF#8
  · simp [trunkOrMark?, hb]
  · simp [trunkOrMark?, hb, trunk?_eq_none_iff]

/-! ### SET CONTEXT and GET CONTEXT (R6, R7) -/

/-- Where each operand is a trunk or "unchanged", SET CONTEXT replaces the trunks named and reports the new context. -/
theorem handleSetContext_of_named {a b : Byte} {source destination : Option TrunkId}
    (ha : trunkOrMark? a = some source) (hb : trunkOrMark? b = some destination) (s : State) :
    handleSetContext a b s =
      okWith [trunkByte (source.getD s.link.contextSource), trunkByte (destination.getD s.link.contextDestination)]
        { s with link := { s.link with
            contextSource := source.getD s.link.contextSource
            contextDestination := destination.getD s.link.contextDestination } } := by
  simp only [handleSetContext, ha, hb, Link.contextBytes]

/-- Where either operand is neither, SET CONTEXT is refused. -/
theorem handleSetContext_of_unnamed {a b : Byte} (h : trunkOrMark? a = none ∨ trunkOrMark? b = none) (s : State) :
    handleSetContext a b s = refuse .range s := by
  obtain ha | hb := h
  · simp only [handleSetContext, ha]
  · cases ha : trunkOrMark? a <;> simp only [handleSetContext, ha, hb]

theorem exec_setContext_of_ready {s : State} {a b : Byte} (h : s.Ready ⟨0x03#8, [a, b]⟩) :
    exec (.setContext a b) s =
      .next ((handleSetContext a b (s.buffered ⟨0x03#8, [a, b]⟩)).2.replied 0x03#8
        (handleSetContext a b (s.buffered ⟨0x03#8, [a, b]⟩)).1.payload) :=
  taken_of_ready (i := .setContext a b) rfl h (handleSetContext a b)

/-- SET CONTEXT taken with operands that each name a trunk or "unchanged". -/
theorem exec_setContext_of_named {s : State} {a b : Byte} {source destination : Option TrunkId}
    (ha : trunkOrMark? a = some source) (hb : trunkOrMark? b = some destination) (h : s.Ready ⟨0x03#8, [a, b]⟩) :
    exec (.setContext a b) s = .next (State.replied 0x03#8
      [0x00#8, trunkByte (source.getD s.link.contextSource), trunkByte (destination.getD s.link.contextDestination)]
      { s with link := { s.link with
          contextSource := source.getD s.link.contextSource
          contextDestination := destination.getD s.link.contextDestination } }) := by
  rw [exec_setContext_of_ready h, handleSetContext_of_named ha hb]
  rfl

/-- SET CONTEXT taken with an operand that is neither a trunk nor "unchanged": RANGE, and the state is as it was. -/
theorem exec_setContext_of_unnamed {s : State} {a b : Byte} (hn : trunkOrMark? a = none ∨ trunkOrMark? b = none)
    (h : s.Ready ⟨0x03#8, [a, b]⟩) : exec (.setContext a b) s = .next (s.replied 0x03#8 [0x04#8]) := by
  rw [exec_setContext_of_ready h, handleSetContext_of_unnamed hn]
  rfl

theorem exec_getContext_of_ready {s : State} (h : s.Ready ⟨0x04#8, []⟩) :
    exec .getContext s = .next (s.replied 0x04#8
      [0x00#8, trunkByte s.link.contextSource, trunkByte s.link.contextDestination]) :=
  taken_of_ready (i := .getContext) rfl h handleGetContext

/-- Settles O14: each operand is read by `trunkOrMark?`, which inverts `referenceByte` and answers `none` for every other
byte. -/
theorem contextCommands : Obligations.ContextCommands := by
  refine ⟨fun s source destination h => ?named, fun s a b hab h => ?refused, fun s h => exec_getContext_of_ready h⟩
  case named =>
    exact exec_setContext_of_named (trunkOrMark?_referenceByte source) (trunkOrMark?_referenceByte destination) h
  case refused =>
    exact exec_setContext_of_unnamed (hab.imp trunkOrMark?_eq_none_iff.mpr trunkOrMark?_eq_none_iff.mpr) h

/-! ### Width conversion (R9) -/

@[simp] theorem convert_self (w : Width) (v : Value) : convert w w v = v := by cases w <;> rfl

/-- Widening multiplies by 256, without overflow from a value of 8 bits. -/
theorem convert_widen_toNat {v : Value} (h : v.toNat ≤ 255) : (convert .w8 .w16 v).toNat = 256 * v.toNat := by
  simp only [convert, BitVec.toNat_shiftLeft, Nat.shiftLeft_eq]
  omega

/-- Narrowing divides by 256 and discards the remainder. -/
theorem convert_narrow_toNat (v : Value) : (convert .w16 .w8 v).toNat = v.toNat / 256 := by
  simp only [convert, BitVec.toNat_ushiftRight, Nat.shiftRight_eq_div_pow]

/-- A narrowed value is a value of 8 bits. -/
theorem convert_narrow_le (v : Value) : (convert .w16 .w8 v).toNat ≤ 255 := by
  have hv := v.isLt
  rw [convert_narrow_toNat]
  omega

/-- From 8 bits to 16 and back nothing is lost. -/
theorem convert_narrow_widen {v : Value} (h : v.toNat ≤ 255) : convert .w16 .w8 (convert .w8 .w16 v) = v := by
  apply BitVec.eq_of_toNat_eq
  rw [convert_narrow_toNat, convert_widen_toNat h, Nat.mul_div_cancel_left _ (by decide)]

/-- From 16 bits to 8 and back the remainder on division by 256 is lost. -/
theorem convert_widen_narrow_toNat (v : Value) :
    (convert .w8 .w16 (convert .w16 .w8 v)).toNat = v.toNat - v.toNat % 256 := by
  rw [convert_widen_toNat (convert_narrow_le v), convert_narrow_toNat]
  omega

/-- Settles O15: both round trips follow from the two conversions read as multiplication and division by 256. -/
theorem widthConversion : Obligations.WidthConversion :=
  ⟨convert_self, fun _ => convert_widen_toNat, fun v => ⟨convert_narrow_toNat v, convert_narrow_le v⟩,
    fun _ => convert_narrow_widen, convert_widen_narrow_toNat⟩

end Sys2Proof.Machine
end

section
/-! SUPPORT and PROOFS. Timing groups, slip control and the commands that clear (R41, R64, R81, R137, R153): what a group
operand is read as, what a request whose handler refuses or answers OK is replied with, and GROUP MOVE, METER CLEAR, SLIP
CLEAR, PLAY FLUSH and LOG CLEAR. -/

namespace Sys2Proof.Machine

/-! ### Group operands (R172) -/

@[simp] theorem group?_groupByte (g : GroupId) : group? (groupByte g) = some g := by
  have hg : (groupByte g).toNat = g.val := by
    simp only [groupByte, natByte, BitVec.toNat_ofNat]
    omega
  simp [group?, hg]

theorem group?_eq_none_iff {b : Byte} : group? b = none ↔ 4 ≤ b.toNat := by
  simp [group?]

/-! ### The two answers of a handler -/

section Answers
variable {i : Instr} {handler : Handler} {code : Byte} {payload : List Byte} {s : State}

/-- A ready request that its handler refuses: the reply carries the status alone, and the state is as it was. -/
theorem taken_refused_of_ready (status : Status) (hr : encodeRequest i = some ⟨code, payload⟩)
    (h : s.Ready ⟨code, payload⟩)
    (hh : handler (s.buffered ⟨code, payload⟩) = refuse status (s.buffered ⟨code, payload⟩)) :
    taken i handler s = .next (s.replied code [status.code]) := by
  rw [taken_of_ready hr h, hh]
  rfl

/-- A ready request that its handler answers with OK: the reply carries OK and the items, from the handler's state. -/
theorem taken_ok_of_ready {items : List Byte} {u : State} (hr : encodeRequest i = some ⟨code, payload⟩)
    (h : s.Ready ⟨code, payload⟩)
    (hh : handler (s.buffered ⟨code, payload⟩) = okWith items (u.buffered ⟨code, payload⟩)) :
    taken i handler s = .next (u.replied code (0x00#8 :: items)) := by
  rw [taken_of_ready hr h, hh]
  rfl

end Answers

/-! ### GROUP MOVE (R41) -/

theorem exec_groupMove (a b : Byte) (s : State) :
    exec (.groupMove a b) s = taken (.groupMove a b) (handleGroupMove a b) s := rfl

theorem GroupConfig.names_iff {t : TrunkId} {c : GroupConfig} :
    c.names t = true ↔ c.primary = some t ∨ c.standby = some t := by
  simp [GroupConfig.names]

/-- Check 1: an operand that is no trunk or no group. -/
theorem handleGroupMove_of_unnamed {a b : Byte} (h : trunk? a = none ∨ group? b = none) (s : State) :
    handleGroupMove a b s = refuse .range s := by
  obtain ha | hb := h
  · simp only [handleGroupMove, ha]
  · cases ha : trunk? a <;> simp only [handleGroupMove, ha, hb]

/-- Check 2: the trunk's transmit section runs. -/
theorem handleGroupMove_of_running {s : State} {t : TrunkId} (h : (s.trunk t).tx.state ≠ .held) (g : GroupId) :
    handleGroupMove (trunkByte t) (groupByte g) s = refuse .sectionRunning s := by
  simp only [handleGroupMove, trunk?_trunkByte, group?_groupByte, if_pos h]

/-- Check 3: the trunk is a reference of the group it is to leave. -/
theorem handleGroupMove_of_reference {s : State} {t : TrunkId} (h : (s.trunk t).tx.state = .held)
    (hn : (s.group (s.trunk t).group).config.names t = true) (g : GroupId) :
    handleGroupMove (trunkByte t) (groupByte g) s = refuse .refInUse s := by
  simp only [handleGroupMove, trunk?_trunkByte, group?_groupByte, if_neg (not_not_intro h), if_pos hn]

/-- All three checks passed. -/
theorem handleGroupMove_of_free {s : State} {t : TrunkId} (h : (s.trunk t).tx.state = .held)
    (hn : ¬(s.group (s.trunk t).group).config.names t = true) (g : GroupId) :
    handleGroupMove (trunkByte t) (groupByte g) s = okWith [] (s.modifyTrunk t fun k => { k with group := g }) := by
  simp only [handleGroupMove, trunk?_trunkByte, group?_groupByte, if_neg (not_not_intro h), if_neg hn]

/-- Settles O23: the checks split the states as the handler's branches do, and none of them reads the request buffer. -/
theorem groupMoveMovesTrunk : Obligations.GroupMoveMovesTrunk := by
  refine ⟨fun s t g h => ?named, fun s a b hab h => ?refused⟩
  case named =>
    dsimp only
    rw [exec_groupMove]
    split_ifs with hrun href
    · exact taken_refused_of_ready .sectionRunning rfl h
        (handleGroupMove_of_running (s := s.buffered _) hrun g)
    · exact taken_refused_of_ready .refInUse rfl h
        (handleGroupMove_of_reference (s := s.buffered _) (not_not.mp hrun) (GroupConfig.names_iff.mpr href) g)
    · exact taken_ok_of_ready rfl h
        (handleGroupMove_of_free (s := s.buffered _) (not_not.mp hrun) (mt GroupConfig.names_iff.mp href) g)
  case refused =>
    rw [exec_groupMove]
    exact taken_refused_of_ready .range rfl h
      (handleGroupMove_of_unnamed (hab.imp trunk?_eq_none_iff.mpr group?_eq_none_iff.mpr) _)

/-! ### METER CLEAR (R64) -/

theorem exec_meterClear (a : Byte) (s : State) :
    exec (.meterClear a) s = taken (.meterClear a) (handleMeterClear a) s := rfl

theorem handleMeterClear_of_named (g : GroupId) (s : State) :
    handleMeterClear (groupByte g) s =
      okWith [] (s.modifyGroup g fun u => { u with meterMaximum := 0#16, longCount := 0#16 }) := by
  simp only [handleMeterClear, group?_groupByte]

theorem handleMeterClear_of_unnamed {a : Byte} (h : group? a = none) (s : State) :
    handleMeterClear a s = refuse .range s := by
  simp only [handleMeterClear, h]

/-! ### SLIP CLEAR (R81) -/

theorem exec_slipClear (a b : Byte) (s : State) :
    exec (.slipClear a b) s = taken (.slipClear a b) (handleSlipClear a b) s := rfl

/-- What SLIP CLEAR of the group `g` makes of a pair: the counts of one source, or of all where `only` is `none`, go to 0. -/
def clearedPair (g : GroupId) (only : Option TrunkId) (g' : GroupId) (t : TrunkId) (p : Pair) : Pair :=
  if g' = g ∧ (only = none ∨ only = some t) then { p with repeats := 0#16, drops := 0#16 } else p

theorem handleSlipClear_of_named (g : GroupId) (only : Option TrunkId) (s : State) :
    handleSlipClear (groupByte g) (referenceByte only) s = okWith [] (s.mapPairs (clearedPair g only)) := by
  simp only [handleSlipClear, group?_groupByte, trunkOrMark?_referenceByte]
  rfl

theorem handleSlipClear_of_unnamed {a b : Byte} (h : group? a = none ∨ trunkOrMark? b = none) (s : State) :
    handleSlipClear a b s = refuse .range s := by
  obtain ha | hb := h
  · simp only [handleSlipClear, ha]
  · cases ha : group? a <;> simp only [handleSlipClear, ha, hb]

/-- The pairs after SLIP CLEAR: those named have their counts at 0, every other pair stays. -/
theorem State.pair_mapPairs_clearedPair (s : State) (g g' : GroupId) (only : Option TrunkId) (t : TrunkId) :
    (s.mapPairs (clearedPair g only)).pair g' t =
      if g' = g ∧ (only = none ∨ only = some t) then { s.pair g t with repeats := 0#16, drops := 0#16 }
      else s.pair g' t := by
  rw [State.pair_mapPairs, clearedPair]
  split_ifs with h
  · rw [h.1]
  · rfl

/-! ### The four commands that clear -/

/-- Settles O26: each handler's answer, by the operand that names what is cleared; SLIP CLEAR's pairs are read one by one. -/
theorem clearingCommands : Obligations.ClearingCommands := by
  refine ⟨fun s g h => ?meter, fun s a ha h => ?meterRefused, fun s g only h => ?slip, fun s a b hab h => ?slipRefused,
    fun s h => ?flush, fun s h => ?log⟩
  case meter =>
    rw [exec_meterClear]
    exact taken_ok_of_ready rfl h (handleMeterClear_of_named g _)
  case meterRefused =>
    rw [exec_meterClear]
    exact taken_refused_of_ready .range rfl h (handleMeterClear_of_unnamed (group?_eq_none_iff.mpr ha) _)
  case slip =>
    refine ⟨s.mapPairs (clearedPair g only), fun g' t => s.pair_mapPairs_clearedPair g g' only t, rfl, ?_⟩
    rw [exec_slipClear]
    exact taken_ok_of_ready rfl h (handleSlipClear_of_named g only _)
  case slipRefused =>
    rw [exec_slipClear]
    exact taken_refused_of_ready .range rfl h
      (handleSlipClear_of_unnamed (hab.imp group?_eq_none_iff.mpr trunkOrMark?_eq_none_iff.mpr) _)
  case flush => exact taken_of_ready (i := .playFlush) rfl h handlePlayFlush
  case log => exact taken_of_ready (i := .logClear) rfl h handleLogClear

end Sys2Proof.Machine
end

section
/-! SUPPORT and PROOFS. The connection map as it is read (R93, R100, R101): the layers of a projected entry, what the operands of
MAP READ are read as, and the entries it reports in either view. -/

namespace Sys2Proof.Machine

/-! ### The layers of the projected map (R93) -/

/-- Where at most one element of a list satisfies `p`, the search finds the one that does. -/
theorem find?_eq_some_of_countP_le_one {α : Type} {p : α → Bool} {xs : List α} {x : α} (hx : x ∈ xs) (hp : p x = true)
    (hone : xs.countP p ≤ 1) : xs.find? p = some x := by
  have hmem : x ∈ xs.filter p := List.mem_filter.mpr ⟨hx, hp⟩
  have hlen : (xs.filter p).length ≤ 1 := List.countP_eq_length_filter ▸ hone
  obtain ⟨y, hy⟩ := List.length_eq_one_iff.mp (le_antisymm hlen (List.length_pos_of_mem hmem))
  obtain rfl : x = y := List.mem_singleton.mp (hy ▸ hmem)
  rw [← List.head?_filter, hy, List.head?_cons]

theorem Change.stagedFor_iff {d : FullSlot} {c : Change} :
    c.stagedFor d = true ↔ c.destination = d ∧ c.batch = none := by
  simp [Change.stagedFor, and_comm]

theorem Change.inFlightFor_iff {d : FullSlot} {c : Change} :
    c.inFlightFor d = true ↔ c.destination = d ∧ c.batch ≠ none := by
  simp [Change.inFlightFor, Option.isSome_iff_ne_none, and_comm]

theorem State.find?_stagedFor_eq_none {s : State} {d : FullSlot}
    (h : ∀ c ∈ s.changes, c.destination = d → c.batch ≠ none) : s.changes.find? (Change.stagedFor d) = none :=
  List.find?_eq_none.mpr fun c hc hs =>
    have ⟨hd, hb⟩ := Change.stagedFor_iff.mp hs
    h c hc hd hb

theorem State.find?_inFlightFor_eq_none {s : State} {d : FullSlot} (h : ∀ c ∈ s.changes, c.destination ≠ d) :
    s.changes.find? (Change.inFlightFor d) = none :=
  List.find?_eq_none.mpr fun c hc hf => h c hc (Change.inFlightFor_iff.mp hf).1

/-- The staged entry of a destination comes first. -/
theorem State.projectedLayer_of_staged {s : State} (hone : s.OneEntryEach) {c : Change} (hc : c ∈ s.changes)
    (hb : c.batch = none) : s.projectedLayer c.destination = (c.entry, .staged) := by
  have hfind : s.changes.find? (Change.stagedFor c.destination) = some c :=
    find?_eq_some_of_countP_le_one hc (Change.stagedFor_iff.mpr ⟨rfl, hb⟩) (hone c.destination).1
  simp only [State.projectedLayer, hfind]

/-- Without a staged entry, the in-flight entry of the destination comes next. -/
theorem State.projectedLayer_of_inFlight {s : State} (hone : s.OneEntryEach) {c : Change} (hc : c ∈ s.changes)
    (hn : ∀ c' ∈ s.changes, c'.destination = c.destination → c'.batch ≠ none) :
    s.projectedLayer c.destination = (c.entry, .inFlight) := by
  have hfind : s.changes.find? (Change.inFlightFor c.destination) = some c :=
    find?_eq_some_of_countP_le_one hc (Change.inFlightFor_iff.mpr ⟨rfl, hn c hc rfl⟩) (hone c.destination).2
  simp only [State.projectedLayer, State.find?_stagedFor_eq_none hn, hfind]

/-- A destination without a change entry shows its active entry. -/
theorem State.projectedLayer_of_unchanged {s : State} {d : FullSlot} (h : ∀ c ∈ s.changes, c.destination ≠ d) :
    s.projectedLayer d = (s.entry d, .active) := by
  have hn : ∀ c ∈ s.changes, c.destination = d → c.batch ≠ none := fun c hc hd => absurd hd (h c hc)
  simp only [State.projectedLayer, State.find?_stagedFor_eq_none hn, State.find?_inFlightFor_eq_none h]

/-! ### The operands of MAP READ (R4, R172) -/

theorem resolveTrunk_eq_some_iff {context t : TrunkId} {b : Byte} :
    resolveTrunk context b = some t ↔ b = trunkByte t ∨ (b = 0xFF#8 ∧ t = context) := by
  have hbyte : trunk? b = some t ↔ b = trunkByte t := by
    refine ⟨fun h => BitVec.eq_of_toNat_eq ?_, fun h => h ▸ trunk?_trunkByte t⟩
    obtain ⟨hb, rfl⟩ : ∃ hb : b.toNat < 8, ⟨b.toNat, hb⟩ = t := by simpa [trunk?] using h
    rw [trunkByte_toNat]
  by_cases hb : b = 0xFF#8
  · simp [resolveTrunk, hb, (trunkByte_ne_mark t).symm, eq_comm]
  · simp [resolveTrunk, hb, hbyte]

theorem resolveTrunk_eq_none_iff {context : TrunkId} {b : Byte} :
    resolveTrunk context b = none ↔ 8 ≤ b.toNat ∧ b ≠ 0xFF#8 := by
  by_cases hb : b = 0xFF#8
  · simp [resolveTrunk, hb]
  · simp [resolveTrunk, hb, trunk?_eq_none_iff]

theorem view?_of_le_one {b : Byte} (h : b.toNat ≤ 1) : view? b = some (if b = 0#8 then .active else .projected) := by
  obtain rfl | rfl : b = 0#8 ∨ b = 1#8 := by bv_omega
  · rfl
  · rfl

theorem view?_eq_none {b : Byte} (h : 2 ≤ b.toNat) : view? b = none := by
  unfold view?
  split
  · omega
  · omega
  · rfl

/-! ### What MAP READ reports (R100, R101) -/

theorem exec_mapRead (view trunk first count : Byte) (s : State) :
    exec (.mapRead view trunk first count) s =
      taken (.mapRead view trunk first count) (handleMapRead view trunk first count) s := rfl

/-- The slots reported are those of the range that lie below the frame's length. -/
theorem readRange_eq (length first count : Nat) :
    readRange length first count =
      (List.finRange 40).filter fun d : SlotId => decide (first ≤ d.val ∧ d.val < first + count ∧ d.val < length) := by
  rw [readRange, readRange.frameRange, List.filter_filter]
  refine List.filter_congr fun d _ => ?_
  rw [Bool.eq_iff_iff]
  simp only [Bool.and_eq_true, decide_eq_true_eq]
  tauto

/-- An entry of either view: the slot, mode, source and forced value of the view's own entry, and then the last-sent value in
the ACTIVE view or the layer in the PROJECTED view. -/
theorem State.viewRecord_ite (s : State) (active : Prop) [Decidable active] (t : TrunkId) (d : SlotId) :
    s.viewRecord (if active then .active else .projected) ⟨t, d⟩ =
      if active then
        [natByte d.val, (s.entry ⟨t, d⟩).modeByte] ++ (s.entry ⟨t, d⟩).sourceBytes ++ (s.entry ⟨t, d⟩).forceBytes ++
          optValue (s.trunk t).tx.lastSent[d]
      else
        [natByte d.val, (s.projected ⟨t, d⟩).modeByte] ++ (s.projected ⟨t, d⟩).sourceBytes ++
          (s.projected ⟨t, d⟩).forceBytes ++ [(s.projectedLayer ⟨t, d⟩).2.byte] := by
  by_cases h : active
  · simp only [if_pos h]
    rfl
  · simp only [if_neg h]
    rfl

/-- Where view and trunk are named, MAP READ reports a range of at least 1 and at most 20 slots that begins within the frame,
and refuses every other. -/
theorem handleMapRead_of_named {view trunk : Byte} {v : View} {t : TrunkId} {s : State} (hv : view? view = some v)
    (ht : resolveTrunk s.link.contextDestination trunk = some t) (first count : Byte) :
    handleMapRead view trunk first count s =
      if 1 ≤ count.toNat ∧ count.toNat ≤ 20 ∧ first.toNat < (s.trunk t).format.length then
        okWith ([trunkByte t, natByte (readRange (s.trunk t).format.length first.toNat count.toNat).length] ++
          (readRange (s.trunk t).format.length first.toNat count.toNat).flatMap fun d => s.viewRecord v ⟨t, d⟩) s
      else refuse .range s := by
  simp only [handleMapRead, hv, ht]

theorem handleMapRead_of_unnamed {view trunk : Byte} {s : State}
    (h : view? view = none ∨ resolveTrunk s.link.contextDestination trunk = none) (first count : Byte) :
    handleMapRead view trunk first count s = refuse .range s := by
  obtain hv | ht := h
  · simp only [handleMapRead, hv]
  · cases hv : view? view <;> simp only [handleMapRead, hv, ht]

/-- A range that no view of the trunk has is refused, whatever the view operand. -/
theorem handleMapRead_of_outside {view trunk first count : Byte} {s : State}
    (h : ∀ t, resolveTrunk s.link.contextDestination trunk = some t →
      ¬(1 ≤ count.toNat ∧ count.toNat ≤ 20 ∧ first.toNat < (s.trunk t).format.length)) :
    handleMapRead view trunk first count s = refuse .range s := by
  cases hv : view? view with
  | none => exact handleMapRead_of_unnamed (.inl hv) first count
  | some v =>
    cases ht : resolveTrunk s.link.contextDestination trunk with
    | none => exact handleMapRead_of_unnamed (.inr ht) first count
    | some t => rw [handleMapRead_of_named hv ht, if_neg (h t ht)]

/-- The operands that MAP READ refuses: a view or a trunk that is none, a count out of 1 to 20, a first slot beyond the frame. -/
theorem handleMapRead_of_refused {view trunk first count : Byte} {s : State}
    (h : 2 ≤ view.toNat ∨ (8 ≤ trunk.toNat ∧ trunk ≠ 0xFF#8) ∨ count = 0#8 ∨ 21 ≤ count.toNat ∨
      ∃ t : TrunkId, (trunk = trunkByte t ∨ (trunk = 0xFF#8 ∧ t = s.link.contextDestination)) ∧
        (s.trunk t).format.length ≤ first.toNat) :
    handleMapRead view trunk first count s = refuse .range s := by
  obtain hview | htrunk | rfl | hcount | ⟨t, ht, hfirst⟩ := h
  · exact handleMapRead_of_unnamed (.inl (view?_eq_none hview)) first count
  · exact handleMapRead_of_unnamed (.inr (resolveTrunk_eq_none_iff.mpr htrunk)) first count
  · exact handleMapRead_of_outside fun _ _ ⟨hlow, _, _⟩ => absurd hlow (by decide)
  · exact handleMapRead_of_outside fun _ _ ⟨_, hhigh, _⟩ => by omega
  · refine handleMapRead_of_outside fun t' ht' ⟨_, _, hlt⟩ => ?_
    obtain rfl : t = t' := Option.some.inj ((resolveTrunk_eq_some_iff.mpr ht).symm.trans ht')
    omega

/-- Settles O39: the operands are read by `view?` and `resolveTrunk`, the slots by `readRange`, and each layer of the projected
map by what the change list holds for the destination. -/
theorem mapReadReportsEntries : Obligations.MapReadReportsEntries := by
  refine ⟨fun s view trunk first count t ht hview hlow hhigh hfirst h => ?taken,
    fun s view trunk first count hbad h => ?refused, fun s d => ⟨?staged, fun hn => ⟨?active, ?inFlight⟩, rfl⟩⟩
  case taken =>
    have hanswer := handleMapRead_of_named (s := s.buffered ⟨0x3A#8, [view, trunk, first, count]⟩) (view?_of_le_one hview)
      (resolveTrunk_eq_some_iff.mpr ht) first count
    rw [if_pos ⟨hlow, hhigh, hfirst⟩, readRange_eq] at hanswer
    simp only [State.viewRecord_ite] at hanswer
    rw [exec_mapRead]
    exact taken_ok_of_ready (u := s) rfl h hanswer
  case refused =>
    rw [exec_mapRead]
    exact taken_refused_of_ready .range rfl h (handleMapRead_of_refused hbad)
  case staged =>
    rintro c hc hone rfl hb
    exact State.projectedLayer_of_staged hone hc hb
  case active => exact State.projectedLayer_of_unchanged
  case inFlight =>
    rintro c hc hone rfl
    exact State.projectedLayer_of_inFlight hone hc hn

end Sys2Proof.Machine
end

section
/-! PROOFS. IDENTIFY and LINK STATUS (R169, R170): the eight counts spelled out in the order of the discard kinds, the operand
that asks for the clearing, and the two replies. -/

namespace Sys2Proof.Machine

/-! ### IDENTIFY (R169) -/

theorem identityBytes_eq :
    identityBytes = [0x3A#8, 0x71#8, 0x08#8, 0x40#8, 1#8, 8#8, 40#8, 4#8, 64#8, 64#8, 16#8] := by decide

theorem exec_identify_of_ready {s : State} (h : s.Ready ⟨0x01#8, []⟩) :
    exec .identify s = .next (s.replied 0x01#8 (0x00#8 :: identityBytes)) :=
  taken_ok_of_ready (i := .identify) (handler := handleIdentify) rfl h rfl

/-! ### LINK STATUS (R170) -/

theorem exec_linkStatus (clear : Byte) (s : State) :
    exec (.linkStatus clear) s = taken (.linkStatus clear) (handleLinkStatus clear) s := rfl

theorem yesNo?_eq_none {b : Byte} (h : 2 ≤ b.toNat) : yesNo? b = none := by
  unfold yesNo?
  split
  · omega
  · omega
  · rfl

/-- The bytes of a table of eight numbers, entry by entry. -/
theorem valueBytes_toList (v : Vector Value 8) :
    valueBytes v.toList = bytes2 v[0] ++ bytes2 v[1] ++ bytes2 v[2] ++ bytes2 v[3] ++ bytes2 v[4] ++ bytes2 v[5] ++
      bytes2 v[6] ++ bytes2 v[7] := by
  have hlist : v.toList = [v[0], v[1], v[2], v[3], v[4], v[5], v[6], v[7]] :=
    List.ext_getElem (by simp) fun n hn _ => by
      have hn8 : n < 8 := by simpa using hn
      interval_cases n <;> rfl
  simp [hlist, valueBytes]

/-- The discard counts stand in the report in the order of the kinds' indices. -/
theorem Link.statusBytes_eq (l : Link) :
    l.statusBytes =
      bytes2 l.discards[DiscardKind.parity.index] ++ bytes2 l.discards[DiscardKind.framing.index] ++
        bytes2 l.discards[DiscardKind.overrun.index] ++ bytes2 l.discards[DiscardKind.length.index] ++
        bytes2 l.discards[DiscardKind.check.index] ++ bytes2 l.discards[DiscardKind.timeout.index] ++
        bytes2 l.discards[DiscardKind.kind.index] ++ bytes2 l.discards[DiscardKind.busyDrop.index] ++
        [discardByte l.lastDiscard, l.rate.byte] := by
  rw [Link.statusBytes, valueBytes_toList]
  rfl

/-- Asked by 0 or 1, LINK STATUS reports what stood before it clears anything. -/
theorem handleLinkStatus_of_named {clear : Byte} {c : Bool} (h : yesNo? clear = some c) (s : State) :
    handleLinkStatus clear s = okWith s.link.statusBytes
      (if c then { s with link := { s.link with discards := Vector.replicate 8 0#16, lastDiscard := none } } else s) := by
  simp only [handleLinkStatus, h]

theorem handleLinkStatus_of_unnamed {clear : Byte} (h : yesNo? clear = none) (s : State) :
    handleLinkStatus clear s = refuse .range s := by
  simp only [handleLinkStatus, h]

/-- Settles O10: IDENTIFY's figures are constants; LINK STATUS's report is spelled out by `Link.statusBytes_eq`, and its
operand is read by `yesNo?`. -/
theorem identifyAndLinkStatusReport : Obligations.IdentifyAndLinkStatusReport := by
  refine ⟨fun s h => ?identify, fun s => ?linkStatus⟩
  case identify => rw [exec_identify_of_ready h, identityBytes_eq]
  case linkStatus =>
    dsimp only
    simp only [← Link.statusBytes_eq, exec_linkStatus]
    refine ⟨fun h => ?kept, fun h => ?cleared, fun c hc h => ?refused⟩
    case kept => exact taken_ok_of_ready rfl h (handleLinkStatus_of_named (c := false) rfl _)
    case cleared => exact taken_ok_of_ready rfl h (handleLinkStatus_of_named (c := true) rfl _)
    case refused =>
      exact taken_refused_of_ready .range rfl h (handleLinkStatus_of_unnamed (yesNo?_eq_none hc) _)

end Sys2Proof.Machine
end

section
/-! SUPPORT. What a step can do, said once: the elementary moves of the part, each with what the model checks before it makes
it, chains of moves, and the ways an event ends. Every law of Safety is then a case split over the moves. -/

namespace Sys2Proof.Machine

/-! ### Moves of one trunk, one group, one pair -/

/-- Neither set of a mask reaches beyond the first `n` slots (R32). -/
def Mask.Below (n : Nat) (m : Mask) : Prop :=
  m.active &&& ~~~slotsBelow n = 0#40 ∧ m.pending &&& ~~~slotsBelow n = 0#40

/-- What a move can make of the record of trunk `t`. -/
inductive TrunkMove (s : State) (t : TrunkId) : Trunk → Prop where
  | same : TrunkMove s t (s.trunk t)
  /-- The receive section goes on without aligning or losing alignment. -/
  | receive (rx : Receive) (hstate : rx.state = .aligned ↔ (s.trunk t).rx.state = .aligned)
      (hmiss : rx.missCount ≤ (s.trunk t).rx.missCount) : TrunkMove s t { s.trunk t with rx := rx }
  /-- A section in HUNT aligns, and its store begins to fill (R19). -/
  | align (rx : Receive) (hhunt : (s.trunk t).rx.state = .hunt) (hstate : rx.state = .aligned) (hmiss : rx.missCount = 0) :
      TrunkMove s t { s.trunk t with rx := rx, store := { (s.trunk t).store with filling := some [] } }
  /-- A frame completes (R22). -/
  | frame (n : Nat) (line : LineBits) (haligned : (s.trunk t).rx.state = .aligned) (hmiss : n ≤ 2) :
      TrunkMove s t
        { s.trunk t with
          rx := { (s.trunk t).rx with missCount := n }
          rxMask := (s.trunk t).rxMask.activate
          store := (s.trunk t).store.push ((s.trunk t).frameValues line) }
  /-- The masks are written or activated, within the frame length (R32, R33); a transmit frame start becomes due or is taken
  (R28). -/
  | masks (rxMask txMask : Mask) (due : Bool)
      (hrx : (s.trunk t).rxMask.Below (s.trunk t).format.length → rxMask.Below (s.trunk t).format.length)
      (htx : (s.trunk t).txMask.Below (s.trunk t).format.length → txMask.Below (s.trunk t).format.length) :
      TrunkMove s t
        { s.trunk t with rxMask := rxMask, txMask := txMask, tx := { (s.trunk t).tx with startDue := due } }
  /-- A HELD trunk that is no reference of its group joins another group (R41). -/
  | join (g : GroupId) (hheld : (s.trunk t).tx.state = .held)
      (hfree : (s.group (s.trunk t).group).config.names t = false) : TrunkMove s t { s.trunk t with group := g }
  /-- The section starts in a group that runs (R27). -/
  | run (hheld : (s.trunk t).tx.state = .held) (hgroup : (s.group (s.trunk t).group).state ≠ .stopped) :
      TrunkMove s t { s.trunk t with tx := { Transmit.reset with state := .run } }
  /-- A slot is driven (R84). -/
  | sent (d : SlotId) (v : Value) (hrun : (s.trunk t).tx.state = .run)
      (hholds : s.ValueLaw → (s.trunk t).format.width.holds v = true) :
      TrunkMove s t
        { s.trunk t with tx := { (s.trunk t).tx with lastSent := (s.trunk t).tx.lastSent.set d (some v) } }
  /-- A frame whose values are all last-sent values is on the line (R28, R84). -/
  | line (l : LineFrame) (hwidth : l.width = (s.trunk t).format.width)
      (hsent : ∀ x ∈ l.slots, ∀ v ∈ x, ∃ d : SlotId, (s.trunk t).tx.lastSent[d] = some v) :
      TrunkMove s t { s.trunk t with tx := { (s.trunk t).tx with firstSent := true, line := some l } }

/-- What a move can make of the record of group `g`. -/
inductive GroupMove (s : State) (g : GroupId) : Group → Prop where
  /-- The counts, the meter and running timers go on. -/
  | count (u : Group) (hconfig : u.config = (s.group g).config) (hstate : u.state = (s.group g).state)
      (hgenerator : u.generator.isSome = (s.group g).generator.isSome)
      (hgrace : u.graceTimer.isSome = (s.group g).graceTimer.isSome) (hdue : u.due = (s.group g).due)
      (hprevious : u.previous = (s.group g).previous) (hlocked : u.lastLocked = (s.group g).lastLocked) : GroupMove s g u
  /-- The record of a STOPPED group is replaced (R43). -/
  | configure (c : GroupConfig) (hstopped : (s.group g).state = .stopped) (hvalid : s.referencesValid g c = true) :
      GroupMove s g { s.group g with config := c }
  /-- A boundary becomes due (R47). -/
  | due (cause : Option TrunkId) (hfollowing : (s.group g).state.following = true) :
      GroupMove s g { s.group g with due := some { time := s.now, cause := cause } }
  /-- A boundary is recorded (R50). -/
  | boundary (b : Boundary) (htime : s.ClockLaw → b.time ≤ s.now) : GroupMove s g ((s.group g).recordBoundary b)
  /-- A running group enters LOCKED on its ALIGNED primary. -/
  | locked (hrunning : (s.group g).state ≠ .stopped) (haligned : s.primaryAligned g = true) :
      GroupMove s g { s.group g with state := .locked, graceTimer := none, generator := none }
  /-- A running group enters STANDBY on its ALIGNED standby. -/
  | standby (hrunning : (s.group g).state ≠ .stopped) (haligned : s.standbyAligned g = true) :
      GroupMove s g { s.group g with state := .standby, graceTimer := none, generator := none }
  /-- A group that follows a reference enters HOLDOVER, with no boundary left due (R53). -/
  | holdover (origin : Origin) (grace : BitVec 16) (first : Time) (hfollowing : (s.group g).state.following = true)
      (hdue : (s.group g).due = none) :
      GroupMove s g
        { s.group g with state := .holdover, origin := origin, graceTimer := some grace, generator := some first }
  /-- A group whose grace timer runs enters DEGRADED (R57). -/
  | degraded (hgrace : (s.group g).state.hasGrace = true) :
      GroupMove s g { s.group g with graceTimer := none, state := .degraded }
  /-- The grace timer of a group without RUN members, which is STOPPED, is absent. -/
  | dropGrace (hmember : s.hasRunMember g = false) : GroupMove s g { s.group g with graceTimer := none }

/-- What a move can make of the pair of group `g` and source `t`. -/
inductive PairMove (s : State) (g : GroupId) (t : TrunkId) : Pair → Prop where
  /-- The counts change. -/
  | count (p : Pair) (hmark : p.mark = (s.pair g t).mark) (hsnapshot : p.snapshot = (s.pair g t).snapshot) : PairMove s g t p
  /-- A selection at a boundary that is due, from the reference or from the generator (R70). -/
  | select (hdue : (s.group g).due.isSome = true ∨ (s.group g).generator.isSome = true) :
      PairMove s g t ((s.pair g t).select (s.trunk t))

/-- What a move can make of the attention unit; a notice asked for stays asked for. -/
inductive AttentionMove (a : Attention) : Attention → Prop where
  | same : AttentionMove a a
  | raise (r : Raising) : AttentionMove a (a.raise r)
  | clear (sources : BitVec 12) : AttentionMove a (a.clear sources)
  | setMask (mask : BitVec 12) : AttentionMove a (a.setMask mask)

/-! ### Moves of the part -/

/-- The transmit section of `t` stops, and its group when no RUN member is left (R29, R46). -/
def State.haltTransmit (t : TrunkId) (s : State) : State :=
  let v := s.modifyTrunk t fun k => { k with tx := .reset }
  if (v.group (v.trunk t).group).state ≠ .stopped ∧ v.hasRunMember (v.trunk t).group = false then
    v.stopGroup (v.trunk t).group
  else v

/-- The receive section of `t` is no longer ALIGNED: its store is invalidated, its pending mask active (R23, R24). -/
def State.leaveAlignment (t : TrunkId) (rx : Receive) (s : State) : State :=
  (s.modifyTrunk t fun k => { k with rx := rx, rxMask := k.rxMask.activate }).invalidate t

/-- The elementary moves of the part. -/
inductive Move (s : State) : State → Prop where
  /-- The link but its outgoing queue, the tap, the playout queue, the log, the attention unit, the uptime, and the model's clock
  and choice counter. -/
  | outside (u : State)
      (heq : u = { s with link := u.link, tap := u.tap, playout := u.playout, log := u.log, attention := u.attention
                          uptime := u.uptime, now := u.now, choices := u.choices })
      (hlink : u.link.outgoing = s.link.outgoing) (htap : s.tap.queue.length ≤ 64 → u.tap.queue.length ≤ 64)
      (hplayout : s.playout.queue.length ≤ 64 → u.playout.queue.length ≤ 64)
      (hlog : s.log.records.length ≤ 16 → u.log.records.length ≤ 16) (hattention : AttentionMove s.attention u.attention)
      (hnow : s.now ≤ u.now) : Move s u
  /-- Trunk records. -/
  | trunks (trunks : Vector Trunk 8) (h : ∀ t : TrunkId, TrunkMove s t trunks[t]) : Move s { s with trunks := trunks }
  /-- Group records. -/
  | groups (groups : Vector Group 4) (h : ∀ g : GroupId, GroupMove s g groups[g]) : Move s { s with groups := groups }
  /-- Pairs. -/
  | pairs (f : GroupId → TrunkId → Pair → Pair) (h : ∀ g t, PairMove s g t (f g t (s.pair g t))) : Move s (s.mapPairs f)
  /-- A trunk that no group follows leaves ALIGNED, or a trunk that was not ALIGNED is held. -/
  | leaveAlignment (t : TrunkId) (rx : Receive) (hstate : rx.state ≠ .aligned) (hmiss : rx.missCount = 0)
      (hfree : (s.trunk t).rx.state = .aligned → (s.group (s.trunk t).group).follows t = false) :
      Move s (s.leaveAlignment t rx)
  /-- A STOPPED group starts with its first RUN member (R45). -/
  | start (t : TrunkId) (u : Group) (hheld : (s.trunk t).tx.state = .held)
      (hstopped : (s.group (s.trunk t).group).state = .stopped) (hconfig : u.config = (s.group (s.trunk t).group).config)
      (hrunning : u.state ≠ .stopped) (hstandby : u.state ≠ .standby)
      (hlocked : u.state = .locked → s.primaryAligned (s.trunk t).group = true)
      (hgenerator : u.generator.isSome = u.state.generatorTimed)
      (hgrace : s.TimingLaw → u.graceTimer.isSome = u.state.hasGrace) (hdue : u.due = none) (hprevious : u.previous = none)
      (hlast : u.lastLocked = none) :
      Move s ((s.modifyTrunk t fun k => { k with tx := { Transmit.reset with state := .run } }).modifyGroup
        (s.trunk t).group fun _ => u)
  /-- A transmit section without in-flight entries stops (R29). -/
  | halt (t : TrunkId) (hflight : ∀ c ∈ s.changes, c.inFlight = true → c.destination.trunk ≠ t) : Move s (s.haltTransmit t)
  /-- FORMAT of a HELD trunk that nothing names (R13 to R16). -/
  | reformat (t : TrunkId) (f : Format) (hlow : 2 ≤ f.length) (hhigh : f.length ≤ 40) (hidle : f.width.holds f.idle = true)
      (hrx : (s.trunk t).rx.state = .held) (htx : (s.trunk t).tx.state = .held)
      (hnames : ∀ c ∈ s.changes, c.names t = false) : Move s (s.reformat t f)
  /-- FORCE entries of a trunk become OPEN (R92). -/
  | clearForced (t : TrunkId) : Move s (s.clearForced t)
  /-- A staged entry is placed (R103 to R109). -/
  | stage (d : FullSlot) (e : MapEntry) (hd : s.exists d = true) (he : s.namesExisting e = true)
      (hfits : e.fits (s.trunk d.trunk).format.width = true) (hplay : e = .play → s.playElsewhere d = false)
      (hlink : ∀ source, e = .link source → s.projected d = .link source ∨ s.fanout source + 1 ≤ 12) :
      Move s (stageEntry d e s).2
  /-- A staged entry is withdrawn (R96, R110). -/
  | withdraw (d : FullSlot) (hstaged : s.changes.any (Change.stagedFor d) = true) (hfanout : s.unstageExceeds d = false) :
      Move s (s.withdraw d)
  /-- Every staged entry is withdrawn (R111). -/
  | discard : Move s { s with changes := s.changes.filter (·.batch.isSome) }
  /-- In-flight entries are applied (R113, R114). -/
  | apply (p : TrunkId → Bool) : Move s (s.applyInFlight p)
  /-- The staged entries go in flight, and those of HELD trunks are applied (R115, R116). -/
  | commit (hbatch : s.batch = none) (hstaged : s.stagedCount ≠ 0) : Move s (s.putInFlight.applyInFlight s.putInFlight.txHeld)
  /-- An event within the event ends. -/
  | finish : Move s s.finish

/-- A chain of moves. -/
def State.Moves : State → State → Prop := Relation.ReflTransGen Move

/-- How a command can end. -/
inductive Event (s : State) : State → Prop where
  /-- Nothing occurs. -/
  | idle : Event s s
  /-- An event. -/
  | quiet (u : State) (h : s.Moves u) : Event s u.finish
  /-- The taking of a request, while no reply waits (R163). -/
  | answered (u : State) (code : Byte) (payload : List Byte) (h : s.Moves u) (hwait : u.replyWaiting = false) :
      Event s (u.replied code payload)
  /-- A message has been sent (R165). -/
  | sent (u : State) (m : OutMessage) (link : Link) (h : s.Moves u) (hout : u.link.outgoing = m :: link.outgoing) :
      Event s (State.finish { u with link := link })
  /-- A reset (R166). -/
  | reset (kind : ResetKind) : Event s (s.resetBy kind)
  /-- Start-up (R167). -/
  | startUp (kind : ResetKind) (strap : Bool) : Event s (s.startUpAfter kind strap).finish
  /-- RESTART (R168). -/
  | restart (u : State) (strap : Bool) (h : s.Moves u) :
      Event s ((u.resetBy .command).startUpAfter .command strap).finish

/-! ### Chains -/

theorem State.Moves.refl {s : State} : s.Moves s := Relation.ReflTransGen.refl

theorem State.Moves.trans {s u v : State} (h : s.Moves u) (h' : u.Moves v) : s.Moves v := Relation.ReflTransGen.trans h h'

theorem Move.moves {s u : State} (h : Move s u) : s.Moves u := Relation.ReflTransGen.single h

theorem State.Moves.then {s u v : State} (h : s.Moves u) (h' : Move u v) : s.Moves v := Relation.ReflTransGen.tail h h'

/-- What every move keeps, a chain keeps. -/
theorem State.Moves.keeps {P : State → Prop} (hP : ∀ s t, Move s t → P s → P t) {s u : State} (h : s.Moves u) (hs : P s) :
    P u := by
  induction h with
  | refl => exact hs
  | tail _ hstep ih => exact hP _ _ hstep ih

/-- A chain keeps what each of its folded steps chains. -/
theorem State.Moves.foldl {α : Type} {f : State → α → State} (hf : ∀ (s : State) (a : α), s.Moves (f s a)) (xs : List α) (s : State) :
    s.Moves (xs.foldl f s) := by
  induction xs generalizing s with
  | nil => exact .refl
  | cons x xs ih => exact (hf s x).trans (ih _)

end Sys2Proof.Machine
end

section
/-! SUPPORT. The chain of moves of every shared operation, every handler and every event, and `exec_event`: each command ends in
one of the ways of `Event`. -/

namespace Sys2Proof.Machine

/-! ### Link, streams, attention unit and log -/

theorem State.moves_link (s : State) (l : Link) (h : l.outgoing = s.link.outgoing) : s.Moves { s with link := l } :=
  Move.moves (.outside _ rfl h id id id .same le_rfl)

theorem State.moves_tap (s : State) (tap : Tap) (h : s.tap.queue.length ≤ 64 → tap.queue.length ≤ 64) :
    s.Moves { s with tap := tap } :=
  Move.moves (.outside _ rfl rfl h id id .same le_rfl)

theorem State.moves_playout (s : State) (playout : Playout)
    (h : s.playout.queue.length ≤ 64 → playout.queue.length ≤ 64) : s.Moves { s with playout := playout } :=
  Move.moves (.outside _ rfl rfl id h id .same le_rfl)

theorem State.moves_log (s : State) (log : FaultLog) (h : s.log.records.length ≤ 16 → log.records.length ≤ 16) :
    s.Moves { s with log := log } :=
  Move.moves (.outside _ rfl rfl id id h .same le_rfl)

theorem State.moves_attention (s : State) {a : Attention} (h : AttentionMove s.attention a) :
    s.Moves { s with attention := a } :=
  Move.moves (.outside _ rfl rfl id id id h le_rfl)

theorem State.moves_choices (s : State) (n : Nat) : s.Moves { s with choices := n } :=
  Move.moves (.outside _ rfl rfl id id id .same le_rfl)

theorem State.moves_advance (s : State) (time : Time) : s.Moves (s.advance time) :=
  Move.moves (.outside _ rfl rfl id id id .same (le_max_left _ _))

theorem State.moves_raise (s : State) (r : Raising) : s.Moves (s.raise r) := s.moves_attention (.raise r)

/-- A record written to a log of at most 16 records leaves at most 16. -/
theorem State.writeRecord_length (s : State) (e : LogEvent) (h : s.log.records.length ≤ 16) :
    (s.writeRecord e).log.records.length ≤ 16 := by
  rw [State.writeRecord_eq]
  simp only [List.length_append, List.length_singleton]
  by_cases hroom : s.log.records.length < Config.logCapacity
  · rw [if_pos hroom]
    exact hroom
  · rw [if_neg hroom, List.length_drop]
    omega

theorem State.moves_writeRecord (s : State) (e : LogEvent) : s.Moves (s.writeRecord e) := by
  have hlog := s.writeRecord_length e
  rw [State.writeRecord_eq] at hlog ⊢
  refine Move.moves (.outside _ rfl rfl id id hlog ?_ le_rfl)
  dsimp only
  split
  · exact .same
  · exact .raise _

theorem State.moves_discardMessage (s : State) (k : DiscardKind) : s.Moves (s.discardMessage k) :=
  Move.moves (.outside _ rfl rfl id id id (.raise .linkError) le_rfl)

theorem State.moves_offerRequest (s : State) (r : Request) : s.Moves (s.offerRequest r) := by
  unfold State.offerRequest
  split
  · exact s.moves_link _ rfl
  · exact s.moves_discardMessage _

theorem State.moves_completeMessage (s : State) (m : List Byte) : s.Moves (s.completeMessage m) := by
  refine (s.moves_link { s.link with completed := none } rfl).trans ?_
  unfold State.completeMessage
  dsimp only
  split
  · split
    · split
      · exact State.moves_offerRequest _ _
      · exact State.moves_discardMessage _ _
    · exact State.moves_discardMessage _ _
  · exact State.moves_discardMessage _ _

theorem State.moves_endTapRun (s : State) : s.Moves s.endTapRun :=
  Move.moves (.outside _ rfl rfl id id id (.raise .tapDone) le_rfl)

theorem State.moves_dropMessage (s : State) (k : DiscardKind) : s.Moves (s.dropMessage k) :=
  Move.moves (.outside _ rfl rfl id id id (.raise .linkError) le_rfl)

/-! ### What follows at once -/

theorem State.moves_settleTap (s : State) : s.Moves s.settleTap := by
  unfold State.settleTap
  split
  · exact s.moves_endTapRun.then .finish
  · exact .refl

theorem State.moves_settleMessage (s : State) : s.Moves s.settleMessage := by
  unfold State.settleMessage
  split
  · exact (s.moves_completeMessage _).then .finish
  · exact .refl

theorem State.moves_settleTimeout (s : State) : s.Moves s.settleTimeout := by
  unfold State.settleTimeout
  split
  · exact (s.moves_dropMessage .timeout).then .finish
  · exact .refl

theorem State.moves_settle (s : State) : s.Moves s.settle :=
  (s.moves_settleTap.trans (State.moves_settleMessage _)).trans (State.moves_settleTimeout _)

/-! ### One trunk, one group, the pairs -/

theorem State.moves_modifyTrunk (s : State) (t : TrunkId) (f : Trunk → Trunk) (h : TrunkMove s t (f (s.trunk t))) :
    s.Moves (s.modifyTrunk t f) := by
  refine (Move.trunks _ fun t' => ?_).moves
  change TrunkMove s t' ((s.modifyTrunk t f).trunk t')
  rw [State.trunk_modifyTrunk]
  split
  next ht => exact ht ▸ h
  · exact .same

theorem GroupMove.same (s : State) (g : GroupId) : GroupMove s g (s.group g) := .count _ rfl rfl rfl rfl rfl rfl rfl

theorem State.moves_modifyGroup (s : State) (g : GroupId) (f : Group → Group) (h : GroupMove s g (f (s.group g))) :
    s.Moves (s.modifyGroup g f) := by
  refine (Move.groups _ fun g' => ?_).moves
  change GroupMove s g' ((s.modifyGroup g f).group g')
  rw [State.group_modifyGroup]
  split
  next hg => exact hg ▸ h
  · exact .same s g'

theorem PairMove.same (s : State) (g : GroupId) (t : TrunkId) : PairMove s g t (s.pair g t) := .count _ rfl rfl

/-! ### Frames -/

theorem State.moves_underrun (s : State) (t : TrunkId) : s.Moves (s.underrun t) := by
  have h := s.moves_playout { s.playout with underruns := satAdd s.playout.underruns 1, episode := true } id
  unfold State.underrun
  dsimp only
  split
  · exact h
  · exact (h.trans (State.moves_raise _ _)).trans (State.moves_writeRecord _ _)

/-! ### Boundaries -/

/-- Whether a boundary of group `g` is due, from its reference or from its generator. -/
def State.timed (g : GroupId) (s : State) : Prop := (s.group g).due.isSome = true ∨ (s.group g).generator.isSome = true

theorem State.moves_selectFrames {s : State} {g : GroupId} (h : s.timed g) : s.Moves (s.selectFrames g) := by
  have hpairs : s.Moves (s.mapPairs fun g' t p => if g' = g then p.select (s.trunk t) else p) := by
    refine (Move.pairs _ fun g' t => ?_).moves
    split
    next hg => exact .select (hg ▸ h)
    · exact .same s g' t
  unfold State.selectFrames
  dsimp only
  split
  · exact hpairs.trans (State.moves_raise _ _)
  · exact hpairs

@[simp] theorem State.selectFrames_group (s : State) (g g' : GroupId) : (s.selectFrames g).group g' = s.group g' := by
  unfold State.selectFrames
  dsimp only
  split <;> rfl

@[simp] theorem State.selectFrames_now (s : State) (g : GroupId) : (s.selectFrames g).now = s.now := by
  unfold State.selectFrames
  dsimp only
  split <;> rfl

theorem State.moves_causeStarts (s : State) (g : GroupId) : s.Moves (s.causeStarts g) := by
  refine (Move.trunks _ fun t => ?_).moves
  simp only [Fin.getElem_fin, Vector.getElem_ofFn, Fin.eta]
  split
  · exact .masks _ _ true id id
  · exact .same

theorem State.moves_boundary {s : State} {g : GroupId} {b : Boundary} (h : s.timed g)
    (hb : (s.selectFrames g).ClockLaw → b.time ≤ s.now) : s.Moves (s.boundary g b) := by
  have hrecord := (State.moves_selectFrames h).trans
    ((s.selectFrames g).moves_modifyGroup g (Group.recordBoundary b) (.boundary b (by simpa using hb)))
  unfold State.boundary
  dsimp only
  refine State.Moves.trans ?_ (State.moves_causeStarts _ g)
  split
  · exact hrecord.trans (State.moves_raise _ _)
  · exact hrecord

end Sys2Proof.Machine
end

section
/-! LAWS. The start of a transmit frame and of a boundary, move by move: what the assembly of slots leaves of the
last-sent values, and why every value it sends lies within its width. -/

namespace Sys2Proof.Machine

/-! ### The assembly of a frame -/

@[simp] theorem State.underrun_trunk (s : State) (t k : TrunkId) : (s.underrun t).trunk k = s.trunk k := by
  obtain ⟨p, a, l, h⟩ := s.underrun_eq t
  rw [h]
  rfl

theorem State.trunk_sent (s : State) (t t' : TrunkId) (d : SlotId) (v : Value) :
    (s.sent t d v).trunk t' =
      if t' = t then { s.trunk t with tx := { (s.trunk t).tx with lastSent := (s.trunk t).tx.lastSent.set d (some v) } }
      else s.trunk t' := State.trunk_modifyTrunk ..

/-- What the assembly of a slot makes of the last-sent values: a slot that is driven has the value it carries. -/
theorem State.assembleSlot_lastSent (s : State) (t : TrunkId) (d d' : SlotId) :
    ((s.assembleSlot t d).2.trunk t).tx.lastSent[d'] =
      if d' = d then (s.assembleSlot t d).1.or (s.trunk t).tx.lastSent[d] else (s.trunk t).tx.lastSent[d'] := by
  have hset : ∀ (u : State) (v : Value), u.trunk t = s.trunk t → ((u.sent t d v).trunk t).tx.lastSent[d'] =
      if d' = d then some v else (s.trunk t).tx.lastSent[d'] := by
    intro u v hu
    simp only [State.trunk_sent, if_true, hu, Fin.getElem_fin, Vector.getElem_set]
    by_cases h : d' = d
    · simp [h]
    · have : ¬(d : Nat) = d' := fun e => h (Fin.ext e.symm)
      simp [h, this]
  unfold State.assembleSlot
  split
  · by_cases h : d' = d <;> simp [h]
  · rw [hset _ _ rfl]; rfl
  · split
    · exact hset _ _ rfl
    · exact hset _ _ (by simp)

/-- A slot that is not among those assembled keeps its last-sent value. -/
theorem State.assembleSlots_lastSent_of_notMem {t : TrunkId} {ds : List SlotId} {d : SlotId} (h : d ∉ ds) (s : State) :
    ((State.assembleSlots t ds s).2.trunk t).tx.lastSent[d] = (s.trunk t).tx.lastSent[d] := by
  induction ds generalizing s with
  | nil => rfl
  | cons d' ds ih =>
    obtain ⟨hne, hmem⟩ := not_or.mp (mt List.mem_cons.mpr h)
    rw [State.assembleSlots, ih hmem, State.assembleSlot_lastSent, if_neg hne]

/-- Each slot assembled has the value it carries as its last-sent value, or keeps it when it is undriven. -/
theorem State.assembleSlots_lastSent {t : TrunkId} {ds : List SlotId} (hnd : ds.Nodup) (s : State) (i : Nat)
    (hi : i < ds.length) :
    ((State.assembleSlots t ds s).2.trunk t).tx.lastSent[ds[i]] =
      ((State.assembleSlots t ds s).1[i]'(by rwa [State.assembleSlots_length])).or (s.trunk t).tx.lastSent[ds[i]] := by
  induction ds generalizing s i with
  | nil => exact absurd hi (Nat.not_lt_zero _)
  | cons d ds ih =>
    obtain ⟨hd, hnd⟩ := List.nodup_cons.mp hnd
    cases i with
    | zero =>
      simp only [List.getElem_cons_zero, State.assembleSlots]
      rw [State.assembleSlots_lastSent_of_notMem hd, State.assembleSlot_lastSent, if_pos rfl]
    | succ i =>
      have hne : ds[i]'(by simpa using hi) ≠ d := fun e => hd (e ▸ List.getElem_mem _)
      simp only [List.getElem_cons_succ, State.assembleSlots]
      rw [ih hnd, State.assembleSlot_lastSent, if_neg hne]

theorem frameSlots_nodup (n : Nat) : (frameSlots n).Nodup := (List.nodup_finRange 40).filter _

/-! ### Values within their width -/

theorem Trunk.heldValue_holds {s : State} (h : s.ValueLaw) (t : TrunkId) (d : SlotId) :
    (s.trunk t).format.width.holds ((s.trunk t).heldValue d) = true := by
  obtain ⟨hidle, hsent, -⟩ := h.1 t
  unfold Trunk.heldValue
  cases hv : (s.trunk t).tx.lastSent[d] with
  | none => exact hidle
  | some v => exact hsent d v hv

theorem State.linkValue_holds {s : State} (h : s.ValueLaw) (t : TrunkId) (source : FullSlot) :
    (s.trunk t).format.width.holds (s.linkValue t source) = true := by
  obtain ⟨ht, hp, -⟩ := h
  unfold State.linkValue
  dsimp only
  split
  · exact (ht t).1
  next f hf =>
    unfold Snapshot.slotValue
    split
    · cases hv : f.values[source.slot.val]? with
      | none => exact (ht t).1
      | some v => exact convert_holds _ _ _ (hp _ _ f hf v (List.mem_of_getElem? hv))
    · exact (ht t).1

/-- The value of a slot that is driven lies within the width of its trunk (R8). -/
theorem State.slotOutcome_holds {s : State} (h : s.ValueLaw) {t : TrunkId} {d : SlotId} {v : Value}
    (hv : s.slotOutcome t d = .value v) : (s.trunk t).format.width.holds v = true := by
  have hidle := (h.1 t).1
  have hheld := Trunk.heldValue_holds h t d
  have hentry := h.2.2.1 ⟨t, d⟩
  unfold State.slotOutcome State.modeOutcome at hv
  dsimp only at hv
  split at hv
  · exact absurd hv (by simp)
  · split at hv
    · cases hv; exact hidle
    · split at hv
      · cases hv; exact hheld
      · split at hv
        · cases hv; exact hidle
        · cases hv; exact State.linkValue_holds h t _
        next e => cases hv; simpa [e, MapEntry.fits] using hentry
        · cases hv; exact hheld
        · exact absurd hv (by simp)

theorem holds_w16 (v : Value) : Width.holds .w16 v = true := decide_eq_true v.isLt

/-! ### The chain of a transmit frame start -/

theorem State.moves_sent {s : State} {t : TrunkId} {d : SlotId} {v : Value} (hrun : (s.trunk t).tx.state = .run)
    (h : s.ValueLaw → (s.trunk t).format.width.holds v = true) : s.Moves (s.sent t d v) :=
  s.moves_modifyTrunk t _ (.sent d v hrun h)

theorem State.moves_assembleSlot {s : State} {t : TrunkId} (hrun : (s.trunk t).tx.state = .run) (d : SlotId) :
    s.Moves (s.assembleSlot t d).2 := by
  unfold State.assembleSlot
  split
  · exact .refl
  next v hv => exact State.moves_sent hrun fun h => State.slotOutcome_holds h hv
  · split
    next v rest hq =>
      refine (s.moves_playout { s.playout with queue := rest } fun h => ?_).trans
        (State.moves_sent hrun fun _ => convert_holds _ _ _ (holds_w16 v))
      simp only [hq, List.length_cons] at h
      exact Nat.le_of_succ_le h
    · refine (s.moves_underrun t).trans (State.moves_sent (by simpa using hrun) fun h => ?_)
      have hheld := Trunk.heldValue_holds h t d
      rw [State.underrun_trunk] at hheld ⊢
      exact hheld

theorem State.moves_assembleSlots {t : TrunkId} (ds : List SlotId) {s : State} (hrun : (s.trunk t).tx.state = .run) :
    s.Moves (State.assembleSlots t ds s).2 := by
  induction ds generalizing s with
  | nil => exact .refl
  | cons d ds ih =>
    refine (State.moves_assembleSlot hrun d).trans (ih ?_)
    obtain ⟨sent, h⟩ := s.assembleSlot_trunk t d
    rw [h t, if_pos rfl]
    exact hrun

theorem State.moves_driveFrame {s : State} {t : TrunkId} (hrun : (s.trunk t).tx.state = .run) : s.Moves (s.driveFrame t) := by
  have hnd := frameSlots_nodup (s.trunk t).format.length
  unfold State.driveFrame
  dsimp only
  refine (State.moves_assembleSlots _ hrun).trans (State.moves_modifyTrunk _ t _ (.line _ ?_ ?_))
  · obtain ⟨sent, h⟩ := State.assembleSlots_trunk t (frameSlots (s.trunk t).format.length) s
    rw [h t, if_pos rfl]
  · intro x hx v hv
    obtain ⟨i, hi, rfl⟩ := List.mem_iff_getElem.mp hx
    rw [State.assembleSlots_length] at hi
    refine ⟨(frameSlots (s.trunk t).format.length)[i], ?_⟩
    rw [State.assembleSlots_lastSent hnd s i hi, Option.mem_def.mp hv]
    rfl

theorem Mask.activate_below {n : Nat} {m : Mask} (h : m.Below n) : m.activate.Below n := ⟨h.2, h.2⟩

theorem State.moves_transmitStart {s : State} {t : TrunkId} (hrun : (s.trunk t).tx.state = .run) :
    s.Moves (s.transmitStart t) := by
  unfold State.transmitStart
  refine ((s.moves_modifyTrunk t _ (.masks _ _ false id Mask.activate_below)).then (.apply (· == t))).trans
    (State.moves_driveFrame ?_)
  simpa using hrun

/-! ### The boundary with what comes before it -/

theorem Trunk.runMember_iff {g : GroupId} {k : Trunk} : k.runMember g = true ↔ k.group = g ∧ k.tx.state = .run := by
  simp [Trunk.runMember]

theorem State.moves_settleStart (s : State) (g : GroupId) (t : TrunkId) : s.Moves (s.settleStart g t) := by
  unfold State.settleStart
  split
  next h => exact (State.moves_transmitStart (Trunk.runMember_iff.mp (Bool.and_eq_true_iff.mp h).1).2).then .finish
  · exact .refl

theorem State.moves_settleStarts (s : State) (g : GroupId) : s.Moves (s.settleStarts g) :=
  State.Moves.foldl (fun s t => s.moves_settleStart g t) allTrunks s

/-- The starts of a group change the trunks, the map, the change list with its batch, the playout queue, the attention unit, the
log and the outgoing queue alone. -/
theorem State.settleStarts_eq (g : GroupId) (s : State) :
    ∃ trunks map changes batch lastBatch playout attention log outgoing, s.settleStarts g =
      { s with trunks := trunks, map := map, changes := changes, batch := batch, lastBatch := lastBatch
               playout := playout, attention := attention, log := log, link := { s.link with outgoing := outgoing } } := by
  have one : ∀ (t : TrunkId) (s : State),
      ∃ trunks map changes batch lastBatch playout attention log outgoing, s.settleStart g t =
        { s with trunks := trunks, map := map, changes := changes, batch := batch, lastBatch := lastBatch
                 playout := playout, attention := attention, log := log, link := { s.link with outgoing := outgoing } } := by
    intro t s
    unfold State.settleStart
    split
    · obtain ⟨k, m, c, b, lb, p, a, l, h⟩ := s.transmitStart_eq t
      obtain ⟨out, w, h'⟩ := (s.transmitStart t).finish_eq
      rw [h', h]
      exact ⟨_, _, _, _, _, _, _, _, _, rfl⟩
    · exact ⟨_, _, _, _, _, _, _, _, s.link.outgoing, rfl⟩
  unfold State.settleStarts
  generalize allTrunks = ts
  induction ts generalizing s with
  | nil => exact ⟨_, _, _, _, _, _, _, _, s.link.outgoing, rfl⟩
  | cons t ts ih =>
    obtain ⟨k, m, c, b, lb, p, a, l, o, h⟩ := one t s
    obtain ⟨k', m', c', b', lb', p', a', l', o', h'⟩ := ih (s.settleStart g t)
    rw [List.foldl_cons, h', h]
    exact ⟨_, _, _, _, _, _, _, _, _, rfl⟩

@[simp] theorem State.settleStarts_group (s : State) (g g' : GroupId) : (s.settleStarts g).group g' = s.group g' := by
  obtain ⟨k, m, c, b, lb, p, a, l, o, h⟩ := s.settleStarts_eq g
  rw [h]
  rfl

@[simp] theorem State.settleStarts_now (s : State) (g : GroupId) : (s.settleStarts g).now = s.now := by
  obtain ⟨k, m, c, b, lb, p, a, l, o, h⟩ := s.settleStarts_eq g
  rw [h]

theorem State.moves_takeBoundary {s : State} {g : GroupId} {b : Boundary}
    (h : (s.group g).due = some b ∨ (s.group g).generator.isSome = true ∧ b.time ≤ s.now) :
    s.Moves (s.takeBoundary g b) := by
  refine (s.moves_settleStarts g).trans (State.moves_boundary ?_ fun hclock => ?_)
  · rw [State.timed, State.settleStarts_group]
    obtain h | ⟨h, -⟩ := h
    · exact .inl (by rw [h]; rfl)
    · exact .inr h
  · rw [State.settleStarts_now]
    obtain h | ⟨-, h⟩ := h
    · simpa using (hclock g).2.2 b (by simpa using h)
    · exact h

theorem State.moves_settleBoundary (s : State) (g : GroupId) : s.Moves (s.settleBoundary g) := by
  unfold State.settleBoundary
  split
  next b hb => exact (State.moves_takeBoundary (.inl hb)).then .finish
  · exact .refl

theorem State.moves_settleFollower (s : State) (t : TrunkId) : s.Moves (s.settleFollower t) := by
  unfold State.settleFollower
  split
  · exact s.moves_settleBoundary _
  · exact .refl

theorem State.moves_settleStopped (s : State) (t : TrunkId) : s.Moves (s.settleStopped t) := by
  unfold State.settleStopped
  split
  · exact s.moves_settleBoundary _
  · exact .refl

end Sys2Proof.Machine
end

section
/-! LAWS. What a boundary leaves of trunks and groups, the entry to a group state that follows a reference and to
HOLDOVER, and what a loss of alignment leaves. -/

namespace Sys2Proof.Machine

/-! ### What a boundary leaves of trunks and groups -/

@[simp] theorem Group.recordBoundary_config (b : Boundary) (u : Group) : (u.recordBoundary b).config = u.config := by
  unfold Group.recordBoundary; split <;> rfl

@[simp] theorem Group.recordBoundary_state (b : Boundary) (u : Group) : (u.recordBoundary b).state = u.state := by
  unfold Group.recordBoundary; split <;> rfl

@[simp] theorem Group.recordBoundary_due (b : Boundary) (u : Group) : (u.recordBoundary b).due = none := by
  unfold Group.recordBoundary; split <;> rfl

@[simp] theorem Group.recordBoundary_generator (b : Boundary) (u : Group) : (u.recordBoundary b).generator = u.generator := by
  unfold Group.recordBoundary; split <;> rfl

@[simp] theorem Group.recordBoundary_graceTimer (b : Boundary) (u : Group) :
    (u.recordBoundary b).graceTimer = u.graceTimer := by
  unfold Group.recordBoundary; split <;> rfl

theorem State.boundary_group (s : State) (g g' : GroupId) (b : Boundary) :
    (s.boundary g b).group g' = if g' = g then (s.group g).recordBoundary b else s.group g' := by
  have h : ((s.selectFrames g).modifyGroup g (Group.recordBoundary b)).group g' =
      if g' = g then (s.group g).recordBoundary b else s.group g' := by
    rw [State.group_modifyGroup, State.selectFrames_group, State.selectFrames_group]
  unfold State.boundary
  dsimp only
  split <;> exact h

theorem State.takeBoundary_group (s : State) (g g' : GroupId) (b : Boundary) :
    (s.takeBoundary g b).group g' = if g' = g then (s.group g).recordBoundary b else s.group g' := by
  rw [State.takeBoundary, State.boundary_group, State.settleStarts_group, State.settleStarts_group]

@[simp] theorem State.causeStarts_trunk (s : State) (g : GroupId) (t : TrunkId) :
    (s.causeStarts g).trunk t =
      if (s.trunk t).runMember g then { s.trunk t with tx := { (s.trunk t).tx with startDue := true } } else s.trunk t := by
  simp [State.causeStarts, State.trunk]

@[simp] theorem State.selectFrames_trunk (s : State) (g : GroupId) (t : TrunkId) : (s.selectFrames g).trunk t = s.trunk t := by
  unfold State.selectFrames
  dsimp only
  split <;> rfl

theorem State.boundary_trunk (s : State) (g : GroupId) (b : Boundary) (t : TrunkId) :
    (s.boundary g b).trunk t =
      if (s.trunk t).runMember g then { s.trunk t with tx := { (s.trunk t).tx with startDue := true } } else s.trunk t := by
  have h : ((s.selectFrames g).modifyGroup g (Group.recordBoundary b)).trunk t = s.trunk t := by simp
  unfold State.boundary
  dsimp only
  rw [State.causeStarts_trunk]
  split <;> simp [h]

/-- Starts change nothing of a trunk but its transmit section, which keeps its state, and its transmit mask. -/
theorem State.settleStarts_trunk (s : State) (g : GroupId) (t' : TrunkId) :
    ∃ tx txMask, tx.state = (s.trunk t').tx.state ∧
      (s.settleStarts g).trunk t' = { s.trunk t' with tx := tx, txMask := txMask } := by
  have one : ∀ (t : TrunkId) (s : State), ∃ tx txMask, tx.state = (s.trunk t').tx.state ∧
      (s.settleStart g t).trunk t' = { s.trunk t' with tx := tx, txMask := txMask } := by
    intro t s
    unfold State.settleStart
    split
    · obtain ⟨tx, hstate, -, -, h⟩ := s.transmitStart_trunk t
      rw [State.finish_trunk, h t']
      split
      next ht => subst ht; exact ⟨tx, _, hstate, rfl⟩
      · exact ⟨_, _, rfl, rfl⟩
    · exact ⟨_, _, rfl, rfl⟩
  unfold State.settleStarts
  generalize allTrunks = ts
  induction ts generalizing s with
  | nil => exact ⟨_, _, rfl, rfl⟩
  | cons t ts ih =>
    obtain ⟨tx, m, hstate, h⟩ := one t s
    obtain ⟨tx', m', hstate', h'⟩ := ih (s.settleStart g t)
    rw [h] at hstate' h'
    exact ⟨tx', m', hstate'.trans hstate, h'⟩

theorem State.takeBoundary_trunk (s : State) (g : GroupId) (b : Boundary) (t : TrunkId) :
    ∃ tx txMask, tx.state = (s.trunk t).tx.state ∧
      (s.takeBoundary g b).trunk t = { s.trunk t with tx := tx, txMask := txMask } := by
  obtain ⟨tx, m, hstate, h⟩ := s.settleStarts_trunk g t
  rw [State.takeBoundary, State.boundary_trunk, h]
  split
  · exact ⟨{ tx with startDue := true }, m, hstate, rfl⟩
  · exact ⟨_, _, hstate, rfl⟩

theorem State.settleBoundary_trunk (s : State) (g : GroupId) (t : TrunkId) :
    ∃ tx txMask, tx.state = (s.trunk t).tx.state ∧
      (s.settleBoundary g).trunk t = { s.trunk t with tx := tx, txMask := txMask } := by
  unfold State.settleBoundary
  split
  · rw [State.finish_trunk]
    exact s.takeBoundary_trunk g _ t
  · exact ⟨_, _, rfl, rfl⟩

@[simp] theorem State.settleBoundary_trunk_group (s : State) (g : GroupId) (t : TrunkId) :
    ((s.settleBoundary g).trunk t).group = (s.trunk t).group := by
  obtain ⟨tx, m, -, h⟩ := s.settleBoundary_trunk g t
  rw [h]

@[simp] theorem State.settleBoundary_trunk_rx (s : State) (g : GroupId) (t : TrunkId) :
    ((s.settleBoundary g).trunk t).rx = (s.trunk t).rx := by
  obtain ⟨tx, m, -, h⟩ := s.settleBoundary_trunk g t
  rw [h]

@[simp] theorem State.settleBoundary_state (s : State) (g g' : GroupId) :
    ((s.settleBoundary g).group g').state = (s.group g').state := by
  unfold State.settleBoundary
  split
  · rw [State.finish_group, State.takeBoundary_group]
    split
    next h => simp [h]
    · rfl
  · rfl

@[simp] theorem State.settleBoundary_config (s : State) (g g' : GroupId) :
    ((s.settleBoundary g).group g').config = (s.group g').config := by
  unfold State.settleBoundary
  split
  · rw [State.finish_group, State.takeBoundary_group]
    split
    next h => simp [h]
    · rfl
  · rfl

/-- After `settleBoundary` no boundary of the group is due. -/
@[simp] theorem State.settleBoundary_due (s : State) (g : GroupId) : ((s.settleBoundary g).group g).due = none := by
  unfold State.settleBoundary
  split
  · simp [State.takeBoundary_group]
  next h => exact h

theorem Group.follows_congr {u v : Group} (t : TrunkId) (hstate : u.state = v.state) (hconfig : u.config = v.config) :
    u.follows t = v.follows t := by
  simp only [Group.follows, hstate, hconfig]

theorem Group.follows_iff {t : TrunkId} {u : Group} :
    u.follows t = true ↔
      (u.state = .locked ∧ u.config.primary = some t) ∨ (u.state = .standby ∧ u.config.standby = some t) := by
  simp [Group.follows]

theorem Group.following_of_follows {t : TrunkId} {u : Group} (h : u.follows t = true) : u.state.following = true := by
  obtain ⟨h, -⟩ | ⟨h, -⟩ := Group.follows_iff.mp h <;> rw [h] <;> rfl

/-- After `settleFollower` no boundary is due of a group that follows the trunk. -/
theorem State.settleFollower_due (s : State) (t : TrunkId)
    (h : ((s.settleFollower t).group ((s.settleFollower t).trunk t).group).follows t = true) :
    ((s.settleFollower t).group ((s.settleFollower t).trunk t).group).due = none := by
  unfold State.settleFollower at *
  split
  next hf =>
    rw [State.settleBoundary_trunk_group]
    exact s.settleBoundary_due _
  next hf => rw [if_neg hf] at h; exact absurd h hf

/-! ### Entries to the group states -/

theorem State.moves_enterLocked {s : State} {g : GroupId} (hrun : (s.group g).state ≠ .stopped)
    (h : s.primaryAligned g = true) : s.Moves (s.enterLocked g) :=
  (s.moves_modifyGroup g _ (.locked hrun h)).trans (State.moves_writeRecord _ _)

theorem State.moves_enterStandby {s : State} {g : GroupId} (hrun : (s.group g).state ≠ .stopped)
    (h : s.standbyAligned g = true) : s.Moves (s.enterStandby g) :=
  ((s.moves_modifyGroup g _ (.standby hrun h)).trans (State.moves_raise _ _)).trans (State.moves_writeRecord _ _)

theorem State.primaryAligned_of_eq {s : State} {g : GroupId} {t : TrunkId} (h : (s.group g).config.primary = some t)
    (ha : (s.trunk t).rx.state = .aligned) : s.primaryAligned g = true := by
  simp [State.primaryAligned, h, ha]

theorem State.standbyAligned_of_eq {s : State} {g : GroupId} {t : TrunkId} (h : (s.group g).config.standby = some t)
    (ha : (s.trunk t).rx.state = .aligned) : s.standbyAligned g = true := by
  simp [State.standbyAligned, h, ha]

theorem State.moves_becomesAligned {s : State} {t : TrunkId} (ha : (s.trunk t).rx.state = .aligned) :
    s.Moves (s.becomesAligned t) := by
  have hraise : ∀ g, s.Moves (s.raise (.refChange g)) := fun g => s.moves_raise _
  unfold State.becomesAligned
  dsimp only
  split
  next hp =>
    have haligned := State.primaryAligned_of_eq hp ha
    split
    next hs => exact State.moves_enterLocked (by simp [hs]) haligned
    next hs => exact (hraise _).trans (State.moves_enterLocked (by simp [hs]) haligned)
    next hs => exact (hraise _).trans (State.moves_enterLocked (by simp [hs]) haligned)
    all_goals exact .refl
  · split
    next hj =>
      have haligned := State.standbyAligned_of_eq hj ha
      split
      next hs =>
        split
        · exact State.moves_enterStandby (by simp [hs]) haligned
        · exact .refl
      next hs => exact State.moves_enterStandby (by simp [hs]) haligned
      all_goals exact .refl
    · exact .refl

/-! ### The end of following -/

/-- The group's part of an entry to HOLDOVER at `entry` (R53). -/
def State.toHoldover (g : GroupId) (origin : Origin) (entry : Time) (s : State) : State :=
  s.modifyGroup g fun u =>
    { u with state := .holdover, origin := origin, graceTimer := some u.config.grace
             generator := some (u.firstHoldover entry) }

theorem State.enterHoldover_eq (s : State) (g : GroupId) (origin : Origin) (entry : Time) :
    s.enterHoldover g origin entry =
      ((s.toHoldover g origin entry).raise (.refLost g)).writeRecord (.holdover g origin) := rfl

/-- An entry to HOLDOVER sees nothing of the log. -/
theorem State.toHoldover_writeRecord (s : State) (g : GroupId) (origin : Origin) (entry : Time) (e : LogEvent) :
    (s.writeRecord e).toHoldover g origin entry = (s.toHoldover g origin entry).writeRecord e := by
  rw [State.writeRecord_eq, State.writeRecord_eq]
  rfl

/-- The group's part of an entry to HOLDOVER, and then the trunk's part of what ends the following. -/
theorem State.moves_endFollowing {s : State} {t : TrunkId} {origin : Origin} {entry : Time} {rx : Receive}
    (hfollows : (s.group (s.trunk t).group).follows t = true) (hdue : (s.group (s.trunk t).group).due = none)
    (hstate : rx.state ≠ .aligned) (hmiss : rx.missCount = 0) :
    s.Moves ((s.toHoldover (s.trunk t).group origin entry).leaveAlignment t rx) := by
  refine (s.moves_modifyGroup _ _ (.holdover _ _ _ (Group.following_of_follows hfollows) hdue)).then
    (.leaveAlignment t rx hstate hmiss fun _ => ?_)
  simp [Group.follows]

/-- The origin of the holdover that ends a following (R53). -/
def Group.holdoverOrigin (u : Group) : Origin := if u.state = .standby then .standby else .primary

/-- The report "leaves ALIGNED" sees of the state the trunk's group and that group's record alone. -/
theorem State.leavesAligned_eq {s u : State} {t : TrunkId} (htrunk : (u.trunk t).group = (s.trunk t).group)
    (hgroup : u.group (s.trunk t).group = s.group (s.trunk t).group) (entry : Time) :
    u.leavesAligned t entry =
      if (s.group (s.trunk t).group).follows t then
        u.enterHoldover (s.trunk t).group (s.group (s.trunk t).group).holdoverOrigin entry
      else u := by
  unfold State.leavesAligned
  dsimp only
  rw [htrunk, hgroup]
  rfl

@[simp] theorem State.leaveAlignment_trunk_group (s : State) (t t' : TrunkId) (rx : Receive) :
    ((s.leaveAlignment t rx).trunk t').group = (s.trunk t').group := by
  simp only [State.leaveAlignment, State.invalidate, State.mapPairs_trunk, State.trunk_modifyTrunk]
  split
  next h => simp [h]
  · rfl

@[simp] theorem State.leaveAlignment_group (s : State) (t : TrunkId) (rx : Receive) (g : GroupId) :
    (s.leaveAlignment t rx).group g = s.group g := rfl

theorem State.moves_hold {s : State} {t : TrunkId} {entry : Time} {rx : Receive}
    (hdue : (s.group (s.trunk t).group).follows t = true → (s.group (s.trunk t).group).due = none)
    (hstate : rx.state ≠ .aligned) (hmiss : rx.missCount = 0) :
    s.Moves ((s.leaveAlignment t rx).leavesAligned t entry) := by
  rw [State.leavesAligned_eq (s := s) (by simp) (by simp)]
  split
  next hf =>
    exact ((State.moves_endFollowing hf (hdue hf) hstate hmiss).trans (State.moves_raise _ _)).trans
      (State.moves_writeRecord _ _)
  next hf => exact Move.moves (.leaveAlignment t rx hstate hmiss fun _ => by simpa using hf)

/-- The receive section a loss leaves (R21). -/
def Receive.lost (rx : Receive) : Receive :=
  { state := .hunt, candidate := none, missCount := 0, lossCount := satAdd rx.lossCount 1 }

theorem State.loseAlignment_eq (s : State) (t : TrunkId) :
    s.loseAlignment t = (s.leaveAlignment t (s.trunk t).rx.lost).raise (.rxLoss t) := rfl

@[simp] theorem State.loseAlignment_trunk_group (s : State) (t t' : TrunkId) :
    ((s.loseAlignment t).trunk t').group = (s.trunk t').group := by
  rw [State.loseAlignment_eq, State.raise_trunk, State.leaveAlignment_trunk_group]

@[simp] theorem State.loseAlignment_group (s : State) (t : TrunkId) (g : GroupId) :
    (s.loseAlignment t).group g = s.group g := rfl

/-- A loss as its two reports leave it, the RX_LOSS record before or after what the group does. -/
theorem State.reportLoss_eq (s : State) (t : TrunkId) :
    ∃ u : State, u = { s.loseAlignment t with choices := s.choices + 1 } ∧
      ((s.loseAlignment t).reportLoss t =
          (if (s.group (s.trunk t).group).follows t then
            u.enterHoldover (s.trunk t).group (s.group (s.trunk t).group).holdoverOrigin s.now
          else u).writeRecord (.rxLoss t) ∨
        (s.loseAlignment t).reportLoss t =
          if (s.group (s.trunk t).group).follows t then
            (u.writeRecord (.rxLoss t)).enterHoldover (s.trunk t).group (s.group (s.trunk t).group).holdoverOrigin s.now
          else u.writeRecord (.rxLoss t)) := by
  have hfirst := State.leavesAligned_eq (s := s) (u := { s.loseAlignment t with choices := s.choices + 1 }) (t := t)
    (s.loseAlignment_trunk_group t t) rfl s.now
  have hlast := State.leavesAligned_eq (s := s)
    (u := State.writeRecord (.rxLoss t) { s.loseAlignment t with choices := s.choices + 1 }) (t := t)
    (by rw [State.writeRecord_trunk]; exact s.loseAlignment_trunk_group t t) (by rw [State.writeRecord_group]; rfl) s.now
  refine ⟨_, rfl, ?_⟩
  rw [← hfirst, ← hlast]
  unfold State.reportLoss
  dsimp only
  split
  · exact .inl rfl
  · exact .inr rfl

/-- The trunk's part of a loss, and its two reports in either order. -/
theorem State.moves_loss {s : State} {t : TrunkId}
    (hdue : (s.group (s.trunk t).group).follows t = true → (s.group (s.trunk t).group).due = none) :
    s.Moves ((s.loseAlignment t).reportLoss t) := by
  have hnext : ∀ u : State, u.Moves { u.raise (.rxLoss t) with choices := u.choices + 1 } :=
    fun u => (u.moves_raise _).trans (State.moves_choices _ _)
  obtain ⟨u, rfl, h⟩ := s.reportLoss_eq t
  by_cases hf : (s.group (s.trunk t).group).follows t = true
  · have hend := (State.moves_endFollowing (origin := (s.group (s.trunk t).group).holdoverOrigin) (entry := s.now)
      (rx := (s.trunk t).rx.lost) hf (hdue hf) (by simp [Receive.lost]) rfl).trans (hnext _)
    simp only [if_pos hf] at h
    obtain h | h := h <;> rw [h, State.enterHoldover_eq]
    · exact ((hend.trans (State.moves_raise _ _)).trans (State.moves_writeRecord _ _)).trans (State.moves_writeRecord _ _)
    · rw [State.toHoldover_writeRecord]
      exact ((hend.trans (State.moves_writeRecord _ _)).trans (State.moves_raise _ _)).trans (State.moves_writeRecord _ _)
  · have hend := (Move.moves (.leaveAlignment t (s.trunk t).rx.lost (by simp [Receive.lost]) rfl
      fun _ => by simpa using hf)).trans (hnext (s.leaveAlignment t (s.trunk t).rx.lost))
    simp only [if_neg hf, or_self] at h
    rw [h]
    exact hend.trans (State.moves_writeRecord _ _)

end Sys2Proof.Machine
end

section
/-! LAWS. The start of a group and of its sections, the transmit holds, and the three cases of a grace expiry. -/

namespace Sys2Proof.Machine

/-! ### The start of a section and of its group -/

theorem State.modifyGroup_modifyGroup (s : State) (g : GroupId) (f f' : Group → Group) :
    (s.modifyGroup g f).modifyGroup g f' = s.modifyGroup g fun u => f' (f u) := by
  simp only [State.modifyGroup, State.group, Fin.getElem_fin, Vector.getElem_set_self, Vector.set_set]

theorem State.modifyTrunk_modifyTrunk (s : State) (t : TrunkId) (f f' : Trunk → Trunk) :
    (s.modifyTrunk t f).modifyTrunk t f' = s.modifyTrunk t fun k => f' (f k) := by
  simp only [State.modifyTrunk, State.trunk, Fin.getElem_fin, Vector.getElem_set_self, Vector.set_set]

/-- The record of a group that starts (R45), but its state, generator and grace timer. -/
def Group.begun (state : GroupState) (generator : Option Time) (grace : Option (BitVec 16)) (u : Group) : Group :=
  { u with previous := none, lastLocked := none, meterMaximum := 0#16, origin := .primary, due := none
           state := state, generator := generator, graceTimer := grace }

/-- The start of a group (R45): FREE, LOCKED on an ALIGNED primary, or ACQUIRING. -/
theorem State.startGroup_eq (s : State) (g : GroupId) (time : Time) :
    s.startGroup g time =
      match (s.group g).config.primary with
      | none =>
          s.modifyGroup g (Group.begun .free (some (time + (s.group g).config.rate.period)) (s.group g).graceTimer)
      | some k =>
          if (s.trunk k).rx.state = .aligned then
            (s.modifyGroup g (Group.begun .locked none none)).writeRecord (.locked g)
          else
            s.modifyGroup g (Group.begun .acquiring (some (time + (s.group g).config.rate.period))
              (some (s.group g).config.grace)) := by
  unfold State.startGroup State.enterLocked
  dsimp only
  rw [State.group_modifyGroup_self, State.modifyGroup_modifyGroup, State.modifyGroup_modifyGroup,
    State.modifyGroup_modifyGroup]
  cases (s.group g).config.primary <;> rfl

/-- What a group that starts is, as a move asks it: `k` is the section's part. -/
theorem State.moves_startSection {s : State} {t : TrunkId} (hheld : (s.trunk t).tx.state = .held) (time : Time) :
    let v := s.modifyTrunk t fun k => { k with tx := { Transmit.reset with state := .run } }
    s.Moves (if (v.group (s.trunk t).group).state = .stopped then v.startGroup (s.trunk t).group time else v) := by
  intro v
  split
  next hstopped =>
    have hstopped' : (s.group (s.trunk t).group).state = .stopped := hstopped
    have hgrace : s.TimingLaw → (s.group (s.trunk t).group).graceTimer.isSome = false := fun h => by
      rw [(h _).2.1, hstopped']
      rfl
    have hrx : ∀ k, ((v.trunk k).rx = (s.trunk k).rx) := fun k => by
      simp only [v, State.trunk_modifyTrunk]
      split
      next h => simp [h]
      · rfl
    rw [State.startGroup_eq]
    split
    · exact Move.moves (.start t (Group.begun _ _ _ _) hheld hstopped' rfl (by simp [Group.begun]) (by simp [Group.begun])
        (by simp [Group.begun]) rfl hgrace rfl rfl rfl)
    next k hk =>
      split
      next ha =>
        rw [hrx] at ha
        have haligned : s.primaryAligned (s.trunk t).group = true := State.primaryAligned_of_eq hk ha
        exact (Move.moves (.start t (Group.begun _ _ _ _) hheld hstopped' rfl (by simp [Group.begun])
          (by simp [Group.begun]) (fun _ => haligned) rfl (fun _ => rfl) rfl rfl rfl)).trans (State.moves_writeRecord _ _)
      · exact Move.moves (.start t (Group.begun _ _ _ _) hheld hstopped' rfl (by simp [Group.begun]) (by simp [Group.begun])
          (by simp [Group.begun]) rfl (fun _ => rfl) rfl rfl rfl)
  next hrun => exact s.moves_modifyTrunk t _ (.run hheld hrun)

/-! ### Transmit holds and the grace expiry -/

@[simp] theorem State.clearForced_fields (s : State) (t : TrunkId) :
    (s.clearForced t).trunks = s.trunks ∧ (s.clearForced t).groups = s.groups ∧ (s.clearForced t).pairs = s.pairs ∧
      (s.clearForced t).changes = s.changes ∧ (s.clearForced t).batch = s.batch ∧
      (s.clearForced t).nextBatch = s.nextBatch ∧ (s.clearForced t).lastBatch = s.lastBatch ∧
      (s.clearForced t).tap = s.tap ∧ (s.clearForced t).playout = s.playout ∧
      (s.clearForced t).attention = s.attention ∧ (s.clearForced t).log = s.log ∧
      (s.clearForced t).uptime = s.uptime ∧ (s.clearForced t).link = s.link ∧ (s.clearForced t).now = s.now ∧
      (s.clearForced t).choices = s.choices ∧ (s.clearForced t).pending = s.pending := by
  unfold State.clearForced
  split <;> simp

theorem State.moves_holdTransmit (s : State) (t : TrunkId) : s.Moves (s.holdTransmit t) := by
  refine (((Move.moves (.apply (· == t))).trans (State.moves_modifyTrunk _ t
    (fun k => { k with txMask := k.txMask.activate }) (.masks _ _ _ id Mask.activate_below))).then (.clearForced t)).then
    (.halt t fun c hc hflight => ?_)
  simp only [State.clearForced_fields, State.modifyTrunk_fields, State.applyInFlight_changes, List.mem_filter] at hc
  simpa [show c.batch.isSome = true from hflight] using hc.2

/-- The grace timer of a group becomes absent (R57). -/
def State.dropGrace (g : GroupId) (s : State) : State := s.modifyGroup g fun u => { u with graceTimer := none }

/-- The application of in-flight entries sees nothing of the groups. -/
theorem State.dropGrace_applyInFlight (s : State) (g : GroupId) (p : TrunkId → Bool) :
    (s.dropGrace g).applyInFlight p = (s.applyInFlight p).dropGrace g := by
  have hon : (s.dropGrace g).inFlightOn p = s.inFlightOn p := rfl
  have hbatch : (s.dropGrace g).batch = s.batch := rfl
  unfold State.applyInFlight
  rw [hon, hbatch]
  by_cases h : (s.inFlightOn p).isEmpty = true
  · simp only [if_pos h]
  · simp only [if_neg h]
    cases s.batch with
    | none => rfl
    | some b =>
      by_cases hb : b.remaining ≤ (s.inFlightOn p).length
      · simp only [if_pos hb]; rfl
      · simp only [if_neg hb]; rfl

theorem State.dropGrace_clearForced (s : State) (g : GroupId) (t : TrunkId) :
    (s.dropGrace g).clearForced t = (s.clearForced t).dropGrace g := by
  have hkeep : (s.dropGrace g).trunk t = s.trunk t := rfl
  unfold State.clearForced
  rw [hkeep]
  by_cases h : (s.trunk t).format.keepForced = true
  · simp only [if_pos h]
  · simp only [if_neg h]; rfl

@[simp] theorem State.dropGrace_state (s : State) (g g' : GroupId) :
    ((s.dropGrace g).group g').state = (s.group g').state := by
  rw [State.dropGrace, State.group_modifyGroup]
  split
  next h => rw [h]
  · rfl

theorem State.modifyGroup_comm (s : State) {g g' : GroupId} (h : g ≠ g') (f f' : Group → Group) :
    (s.modifyGroup g f).modifyGroup g' f' = (s.modifyGroup g' f').modifyGroup g f := by
  have hset := Vector.set_comm (xs := s.groups) (f (s.group g)) (f' (s.group g')) (i := g) (j := g') (hi := g.isLt)
    (hj := g'.isLt) fun e => h (Fin.ext e)
  have hg : (s.modifyGroup g f).group g' = s.group g' := State.group_modifyGroup_ne s (Ne.symm h) f
  have hg' : (s.modifyGroup g' f').group g = s.group g := State.group_modifyGroup_ne s h f'
  simp only [State.modifyGroup] at hg hg' ⊢
  rw [hg, hg', hset]

/-- The stop of a group sees nothing of a grace timer. -/
theorem State.dropGrace_stopGroup (s : State) (g g' : GroupId) :
    (s.dropGrace g).stopGroup g' = (s.stopGroup g').dropGrace g := by
  have hstop : (s.dropGrace g).modifyGroup g' (fun u =>
      { u with state := .stopped, graceTimer := none, generator := none, due := none }) =
      (s.modifyGroup g' fun u =>
        { u with state := .stopped, graceTimer := none, generator := none, due := none }).dropGrace g := by
    unfold State.dropGrace
    by_cases h : g = g'
    · subst h
      rw [State.modifyGroup_modifyGroup, State.modifyGroup_modifyGroup]
    · exact s.modifyGroup_comm h _ _
  unfold State.stopGroup
  rw [hstop]
  rfl

theorem State.dropGrace_haltTransmit (s : State) (g : GroupId) (t : TrunkId) :
    (s.dropGrace g).haltTransmit t = (s.haltTransmit t).dropGrace g := by
  have hdrop : (s.dropGrace g).modifyTrunk t (fun k => { k with tx := .reset }) =
      (s.modifyTrunk t fun k => { k with tx := .reset }).dropGrace g := rfl
  unfold State.haltTransmit
  dsimp only
  rw [hdrop]
  generalize s.modifyTrunk t (fun k => { k with tx := .reset }) = v
  have htrunk : (v.dropGrace g).trunk t = v.trunk t := rfl
  have hmember : ∀ g', (v.dropGrace g).hasRunMember g' = v.hasRunMember g' := fun _ => rfl
  rw [htrunk, State.dropGrace_state, hmember]
  by_cases h : (v.group (v.trunk t).group).state ≠ .stopped ∧ v.hasRunMember (v.trunk t).group = false
  · simp only [if_pos h]
    exact v.dropGrace_stopGroup g _
  · simp only [if_neg h]

theorem State.dropGrace_holdTransmit (s : State) (g : GroupId) (t : TrunkId) :
    (s.dropGrace g).holdTransmit t = (s.holdTransmit t).dropGrace g := by
  have hhold : ∀ u : State, u.holdTransmit t =
      (((u.applyInFlight (· == t)).modifyTrunk t fun k => { k with txMask := k.txMask.activate }).clearForced
        t).haltTransmit t := fun _ => rfl
  rw [hhold, hhold, State.dropGrace_applyInFlight, ← State.dropGrace_haltTransmit, ← State.dropGrace_clearForced]
  rfl

theorem State.dropGrace_cascade (g : GroupId) (ts : List TrunkId) (s : State) :
    ts.foldl (State.cascadeHold g) (s.dropGrace g) = (ts.foldl (State.cascadeHold g) s).dropGrace g := by
  induction ts generalizing s with
  | nil => rfl
  | cons t ts ih =>
    have hone : (s.dropGrace g).cascadeHold g t = (s.cascadeHold g t).dropGrace g := by
      have htrunk : (s.dropGrace g).trunk t = s.trunk t := rfl
      unfold State.cascadeHold
      rw [htrunk]
      by_cases h : (s.trunk t).runMember g = true
      · simp only [if_pos h]
        exact s.dropGrace_holdTransmit g t
      · simp only [if_neg h]
    rw [List.foldl_cons, hone, ih, List.foldl_cons]

/-- A hold of `t` changes its own trunk's transmit section and transmit mask alone. -/
theorem State.holdTransmit_trunk (s : State) (t t' : TrunkId) :
    (s.holdTransmit t).trunk t' =
      if t' = t then { s.trunk t with txMask := (s.trunk t).txMask.activate, tx := .reset } else s.trunk t' := by
  have hclear : ∀ u : State, (u.clearForced t).trunk t' = u.trunk t' := fun u => by simp [State.trunk]
  have hclear' : ∀ u : State, (u.clearForced t).trunk t = u.trunk t := fun u => by simp [State.trunk]
  have hhalt : ∀ u : State, (u.haltTransmit t).trunk t' = (u.modifyTrunk t fun k => { k with tx := .reset }).trunk t' := by
    intro u
    unfold State.haltTransmit
    dsimp only
    split <;> rfl
  refine (hhalt _).trans ?_
  simp only [State.trunk_modifyTrunk, hclear, hclear', State.applyInFlight_trunk]
  split <;> simp

theorem State.hasRunMember_eq_false {s : State} {g : GroupId} :
    s.hasRunMember g = false ↔ ∀ t, (s.trunk t).runMember g = false := by
  simp [State.hasRunMember, allTrunks]

/-- After the STOP cascade no RUN member is left. -/
theorem State.cascade_members (g : GroupId) (s : State) :
    (allTrunks.foldl (State.cascadeHold g) s).hasRunMember g = false := by
  have hone : ∀ (s : State) (t t' : TrunkId), ((s.cascadeHold g t).trunk t').runMember g =
      if t' = t then false else (s.trunk t').runMember g := by
    intro s t t'
    unfold State.cascadeHold
    by_cases h : (s.trunk t).runMember g = true
    · rw [if_pos h, State.holdTransmit_trunk]
      split
      · simp [Trunk.runMember, Transmit.reset]
      · rfl
    · rw [if_neg h]
      split
      next ht => simpa [ht] using h
      · rfl
  have hall : ∀ (ts : List TrunkId) (s : State) (t : TrunkId), t ∈ ts ∨ (s.trunk t).runMember g = false →
      ((ts.foldl (State.cascadeHold g) s).trunk t).runMember g = false := by
    intro ts
    induction ts with
    | nil => intro s t h; exact h.resolve_left (List.not_mem_nil)
    | cons t' ts ih =>
      intro s t h
      refine ih _ t (Classical.or_iff_not_imp_left.mpr fun hmem => ?_)
      rw [hone]
      split
      · rfl
      next hne => exact h.resolve_left fun hm => (List.mem_cons.mp hm).elim hne hmem
  exact State.hasRunMember_eq_false.mpr fun t => hall allTrunks s t (.inl (List.mem_finRange t))

theorem State.moves_cascadeHold (s : State) (g : GroupId) (t : TrunkId) : s.Moves (s.cascadeHold g t) := by
  unfold State.cascadeHold
  split
  · exact s.moves_holdTransmit t
  · exact .refl

theorem Group.expiryDue_iff {u : Group} :
    u.expiryDue = true ↔ u.graceTimer = some 0#16 ∧ (u.state = .acquiring ∨ u.state = .holdover) := by
  simp [Group.expiryDue]

/-- The grace expiry by its three cases (R57). -/
theorem State.expire_eq (s : State) (g : GroupId) :
    s.expire g =
      if (s.group g).origin = .primary ∧ s.standbyAligned g then s.enterStandby g
      else if (s.group g).config.policy = .stop then (s.dropGrace g).stopCascade g
      else ((s.modifyGroup g fun u => { u with graceTimer := none, state := .degraded }).raise (.degraded g)).writeRecord
        (.degraded g) := by
  have hdrop : (s.dropGrace g).group g = { s.group g with graceTimer := none } := State.group_modifyGroup_self s g _
  have hstandby : (s.dropGrace g).standbyAligned g = s.standbyAligned g := by
    unfold State.standbyAligned
    rw [hdrop]
    rfl
  unfold State.expire
  change (if ((s.dropGrace g).group g).origin = _ ∧ (s.dropGrace g).standbyAligned g = true then
      (s.dropGrace g).enterStandby g
    else if ((s.dropGrace g).group g).config.policy = _ then (s.dropGrace g).stopCascade g
    else (s.dropGrace g).enterDegraded g) = _
  rw [hdrop, hstandby]
  have hs : (s.dropGrace g).enterStandby g = s.enterStandby g := by
    unfold State.enterStandby State.dropGrace
    rw [State.modifyGroup_modifyGroup]
  have hd : (s.dropGrace g).enterDegraded g =
      ((s.modifyGroup g fun u => { u with graceTimer := none, state := .degraded }).raise (.degraded g)).writeRecord
        (.degraded g) := by
    unfold State.enterDegraded State.dropGrace
    rw [State.modifyGroup_modifyGroup]
  rw [hs, hd]

theorem State.moves_expire {s : State} {g : GroupId} (h : (s.group g).expiryDue = true) : s.Moves (s.expire g) := by
  have hstate : (s.group g).state ≠ .stopped ∧ (s.group g).state.hasGrace = true := by
    obtain ⟨-, h | h⟩ := Group.expiryDue_iff.mp h <;> simp [h, GroupState.hasGrace]
  rw [State.expire_eq]
  split
  next hs => exact State.moves_enterStandby hstate.1 hs.2
  · split
    · have hcascade := State.Moves.foldl (fun s t => s.moves_cascadeHold g t) allTrunks s
      have hmembers := State.cascade_members g s
      unfold State.stopCascade
      rw [State.dropGrace_cascade]
      generalize allTrunks.foldl (State.cascadeHold g) s = v at hcascade hmembers ⊢
      have hdrop : v.Moves (v.dropGrace g) := v.moves_modifyGroup g _ (.dropGrace hmembers)
      exact ((hcascade.trans hdrop).trans (State.moves_raise _ _)).trans (State.moves_writeRecord _ _)
    · exact ((s.moves_modifyGroup g _ (.degraded hstate.2)).trans (State.moves_raise _ _)).trans
        (State.moves_writeRecord _ _)

end Sys2Proof.Machine
end

section
/-! LAWS. Every handler is a chain of moves, every event is named, and `exec_event` says once what any command does. -/

namespace Sys2Proof.Machine

/-! ### The handlers -/

/-- What a request's rule makes of the state is a chain of moves. -/
def Handler.Chains (h : Handler) : Prop := ∀ s : State, s.Moves (h s).2

theorem chains_setContext (a b : Byte) : (handleSetContext a b).Chains := by
  intro s
  unfold handleSetContext
  dsimp only
  split
  · exact s.moves_link _ rfl
  · exact .refl

theorem chains_linkStatus (a : Byte) : (handleLinkStatus a).Chains := by
  intro s
  unfold handleLinkStatus
  dsimp only
  split
  next c _ =>
    cases c
    · exact .refl
    · exact s.moves_link _ rfl
  · exact .refl

theorem chains_restart : handleRestart.Chains := fun s => s.moves_link _ rfl

theorem chains_attentionRead : handleAttentionRead.Chains := fun _ => .refl

theorem chains_ack (a : Value) : (handleAck a).Chains := by
  intro s
  unfold handleAck
  split
  · exact s.moves_attention (.clear _)
  · exact .refl

theorem chains_attentionMask (a : Value) : (handleAttentionMask a).Chains := by
  intro s
  unfold handleAttentionMask
  split
  · exact s.moves_attention (.setMask _)
  · exact .refl

theorem chains_logRead (n : Byte) : (handleLogRead n).Chains := by
  intro s
  unfold handleLogRead
  dsimp only
  split
  · exact s.moves_log _ fun h => by simp only [List.length_drop]; omega
  · exact .refl

theorem chains_logClear : handleLogClear.Chains := fun s => s.moves_log _ fun _ => Nat.zero_le _

theorem chains_tapStart (r : SlotRef) (count : Value) : (handleTapStart r count).Chains := by
  intro s
  unfold handleTapStart
  split
  · exact .refl
  · split
    · exact .refl
    · exact s.moves_tap _ fun _ => Nat.zero_le _

theorem chains_tapStop : handleTapStop.Chains := by
  intro s
  unfold handleTapStop
  split
  · exact s.moves_tap _ id
  · exact .refl

theorem chains_tapRead (n : Byte) : (handleTapRead n).Chains := by
  intro s
  unfold handleTapRead
  dsimp only
  split
  · exact s.moves_tap _ fun h => by simp only [List.length_drop]; omega
  · exact .refl

theorem chains_playLoad (values : List Value) : (handlePlayLoad values).Chains := by
  intro s
  unfold handlePlayLoad
  dsimp only
  split
  · exact s.moves_playout _ fun h => by
      simp only [List.length_append, List.length_take, Config.queueCapacity]
      omega
  · exact .refl

theorem chains_playFlush : handlePlayFlush.Chains := fun s => s.moves_playout _ fun _ => Nat.zero_le _

theorem chains_playStatus (a : Byte) : (handlePlayStatus a).Chains := by
  intro s
  unfold handlePlayStatus
  dsimp only
  split
  next c _ =>
    cases c
    · exact .refl
    · exact s.moves_playout _ id
  · exact .refl

/-! ### The handlers of groups and pairs -/

theorem chains_groupMove (a b : Byte) : (handleGroupMove a b).Chains := by
  intro s
  unfold handleGroupMove
  split
  · split
    · exact .refl
    next hheld =>
      split
      · exact .refl
      next hfree =>
        dsimp only [okWith]
        refine s.moves_modifyTrunk _ _ ?_
        exact .join _ (not_not.mp hheld) (by simpa using hfree)
  · exact .refl

theorem chains_groupSet (g k j : Byte) (grace : Value) (policy rate : Byte) (limit : Value) :
    (handleGroupSet g k j grace policy rate limit).Chains := by
  intro s
  unfold handleGroupSet
  split
  · exact .refl
  · split
    · exact .refl
    next hstopped =>
      split
      · exact .refl
      · split
        next hvalid =>
          dsimp only [okWith]
          refine s.moves_modifyGroup _ _ ?_
          exact .configure _ (not_not.mp hstopped) hvalid
        · exact .refl

theorem State.settleBoundary_primaryAligned (s : State) (g g' : GroupId) :
    (s.settleBoundary g).primaryAligned g' = s.primaryAligned g' := by
  simp [State.primaryAligned]

theorem chains_revert (a : Byte) : (handleRevert a).Chains := by
  intro s
  unfold handleRevert
  split
  · exact .refl
  next g _ =>
    split
    · exact .refl
    next hstate =>
      split
      · exact .refl
      next haligned =>
        refine ((s.moves_settleBoundary g).trans (State.moves_raise _ _)).trans (State.moves_enterLocked ?_ ?_)
        · rw [State.raise_group, State.settleBoundary_state, not_not.mp hstate]
          simp
        · exact (State.settleBoundary_primaryAligned s g g).trans (by simpa using haligned)

theorem chains_meterClear (a : Byte) : (handleMeterClear a).Chains := by
  intro s
  unfold handleMeterClear
  split
  · exact .refl
  · dsimp only [okWith]
    refine s.moves_modifyGroup _ _ ?_
    exact .count _ rfl rfl rfl rfl rfl rfl rfl

theorem chains_groupStatus (a : Byte) : (handleGroupStatus a).Chains := by
  intro s
  unfold handleGroupStatus
  split <;> exact .refl

theorem chains_slipStatus (a b : Byte) : (handleSlipStatus a b).Chains := by
  intro s
  unfold handleSlipStatus
  split <;> exact .refl

theorem chains_slipClear (a b : Byte) : (handleSlipClear a b).Chains := by
  intro s
  unfold handleSlipClear
  split
  · refine Move.moves (.pairs _ fun g t => ?_)
    split
    · exact .count _ rfl rfl
    · exact .same s g t
  · exact .refl

/-! ### The handlers of the map and the change list -/

theorem chains_mapRead (a b c d : Byte) : (handleMapRead a b c d).Chains := by
  intro s
  unfold handleMapRead
  dsimp only
  split
  · split <;> exact .refl
  · exact .refl

theorem existingSlot?_eq_some {s : State} {t : TrunkId} {b : Byte} {d : FullSlot} (h : existingSlot? s t b = some d) :
    d.trunk = t ∧ d.slot.val = b.toNat ∧ s.exists d = true := by
  unfold existingSlot? at h
  split at h
  next hb =>
    cases h
    exact ⟨rfl, rfl, decide_eq_true hb.2⟩
  · exact absurd h (by simp)

theorem resolve_exists {s : State} {context : TrunkId} {r : SlotRef} {d : FullSlot} (h : resolve s context r = some d) :
    s.exists d = true := by
  obtain ⟨t, -, ht⟩ := Option.bind_eq_some_iff.mp h
  exact (existingSlot?_eq_some ht).2.2

/-- The placing of an entry that is neither a link nor PLAY is a move. -/
theorem State.moves_stage {s : State} {d : FullSlot} {e : MapEntry} (hd : s.exists d = true)
    (hfits : e.fits (s.trunk d.trunk).format.width = true) (hplay : e ≠ .play) (hlink : ∀ source, e ≠ .link source) :
    s.Moves (stageEntry d e s).2 := by
  refine Move.moves (.stage d e hd ?_ hfits (fun h => absurd h hplay) fun source h => absurd h (hlink source))
  cases e with
  | link source => exact absurd rfl (hlink source)
  | opened => rfl
  | force v => rfl
  | hold => rfl
  | play => rfl

theorem chains_stageLink (r q : SlotRef) : (handleStageLink r q).Chains := by
  intro s
  unfold handleStageLink
  split
  next d src hd hsrc =>
    split
    · exact .refl
    next hroom =>
      refine Move.moves (.stage d (.link src) (resolve_exists hd) (resolve_exists hsrc) rfl (fun h => nomatch h)
        fun source h => ?_)
      cases h
      refine Classical.or_iff_not_imp_left.mpr fun hne => not_lt.mp fun hlt => hroom ⟨hne, hlt⟩
  · exact .refl

theorem chains_stageOpen (r : SlotRef) : (handleStageOpen r).Chains := by
  intro s
  unfold handleStageOpen
  split
  next d hd => exact State.moves_stage (resolve_exists hd) rfl (by simp) (by simp)
  · exact .refl

theorem chains_stageForce (r : SlotRef) (v : Value) : (handleStageForce r v).Chains := by
  intro s
  unfold handleStageForce
  split
  next d hd =>
    split
    next hv => exact State.moves_stage (resolve_exists hd) hv (by simp) (by simp)
    · exact .refl
  · exact .refl

theorem chains_stageHold (r : SlotRef) : (handleStageHold r).Chains := by
  intro s
  unfold handleStageHold
  split
  next d hd => exact State.moves_stage (resolve_exists hd) rfl (by simp) (by simp)
  · exact .refl

theorem chains_stagePlay (r : SlotRef) : (handleStagePlay r).Chains := by
  intro s
  unfold handleStagePlay
  split
  next d hd =>
    split
    · exact .refl
    next hplay =>
      exact Move.moves (.stage d .play (resolve_exists hd) rfl rfl (fun _ => by simpa using hplay) fun _ h => nomatch h)
  · exact .refl

theorem chains_unstage (r : SlotRef) : (handleUnstage r).Chains := by
  intro s
  unfold handleUnstage
  split
  · exact .refl
  · split
    · exact .refl
    next hstaged =>
      split
      · exact .refl
      next hfanout => exact Move.moves (.withdraw _ (by simpa using hstaged) (by simpa using hfanout))

theorem chains_discard : handleDiscard.Chains := fun _ => Move.moves .discard

theorem chains_commit : handleCommit.Chains := by
  intro s
  unfold handleCommit
  dsimp only
  split
  · exact .refl
  next hbatch =>
    split
    · exact .refl
    next hstaged => exact Move.moves (.commit (by simpa using hbatch) hstaged)

theorem chains_listRead (a b : Byte) : (handleListRead a b).Chains := by
  intro s
  unfold handleListRead
  dsimp only
  split <;> exact .refl

/-! ### The handlers of the trunks -/

theorem chains_format (a l w : Byte) (idle : Value) (e : Byte) : (handleFormat a l w idle e).Chains := by
  intro s
  unfold handleFormat
  split
  next t w keep _ _ _ =>
    split
    · exact .refl
    next hvalues =>
      split
      · exact .refl
      next hheld =>
        split
        · exact .refl
        next hnames =>
          split
          · exact .refl
          · obtain ⟨hlow, hhigh, hidle⟩ := not_not.mp hvalues
            obtain ⟨hrx, htx⟩ := not_not.mp hheld
            exact Move.moves (.reformat t _ hlow hhigh hidle hrx htx (by simpa using hnames))
  · exact .refl

theorem chains_rxRun (a : Byte) : (handleRxRun a).Chains := by
  intro s
  unfold handleRxRun
  dsimp only
  split
  · split
    next hheld =>
      dsimp only [okWith]
      refine s.moves_modifyTrunk _ _ ?_
      exact .receive _ (by simp [hheld]) (Nat.zero_le _)
    · exact .refl
  · exact .refl

/-- The receive section a hold leaves (R24). -/
def Receive.stopped (rx : Receive) : Receive := { rx with state := .held, candidate := none, missCount := 0 }

theorem State.holdReceive_eq (s : State) (t : TrunkId) : s.holdReceive t = s.leaveAlignment t (s.trunk t).rx.stopped := rfl

theorem chains_rxHold (time : Time) (a : Byte) : (handleRxHold time a).Chains := by
  intro s
  unfold handleRxHold
  dsimp only
  split
  next t _ =>
    have hchain := (s.moves_settleFollower t).trans (State.moves_advance _ time)
    have hdue := s.settleFollower_due t
    generalize s.settleFollower t = v at hchain hdue ⊢
    rw [State.holdReceive_eq]
    have hstate : ((v.advance time).trunk t).rx.stopped.state ≠ .aligned := by simp [Receive.stopped]
    split
    · exact hchain.trans (State.moves_hold hdue hstate rfl)
    next ha => exact hchain.trans (Move.moves (.leaveAlignment t _ hstate rfl fun h => absurd h ha))
  · exact .refl

theorem chains_txRun (time : Time) (a : Byte) : (handleTxRun time a).Chains := by
  intro s
  unfold handleTxRun
  dsimp only
  split
  · split
    next hheld => exact (s.moves_advance time).trans (State.moves_startSection (s := s.advance time) hheld (s.advance time).now)
    · exact .refl
  · exact .refl

theorem chains_txHold (a : Byte) : (handleTxHold a).Chains := by
  intro s
  unfold handleTxHold
  split
  · exact (s.moves_settleStopped _).trans (State.moves_holdTransmit _ _)
  · exact .refl

theorem Mask.write_below {n : Nat} {m : Mask} {slots : SlotSet} (h : slots &&& ~~~slotsBelow n = 0#40) (now : Bool)
    (hm : m.Below n) : (m.write slots now).Below n := by
  refine ⟨?_, h⟩
  cases now
  · exact hm.1
  · exact h

theorem chains_setMask (a b : Byte) (m : SlotSet) : (handleSetMask a b m).Chains := by
  intro s
  unfold handleSetMask
  split
  next t dir _ _ =>
    split
    next hm =>
      cases dir with
      | receive =>
        dsimp only [okWith]
        refine s.moves_modifyTrunk t _ ?_
        exact .masks _ _ _ (Mask.write_below hm _) id
      | transmit =>
        dsimp only [okWith]
        refine s.moves_modifyTrunk t _ ?_
        exact .masks _ _ _ id (Mask.write_below hm _)
    · exact .refl
  · exact .refl

theorem chains_trunkStatus (a b : Byte) : (handleTrunkStatus a b).Chains := by
  intro s
  unfold handleTrunkStatus
  dsimp only
  split
  next t c _ _ =>
    cases c
    · exact .refl
    · dsimp only [okWith]
      rw [if_pos rfl]
      refine s.moves_modifyTrunk t _ ?_
      exact .receive _ Iff.rfl le_rfl
  · exact .refl

theorem chains_refuse (status : Status) : Handler.Chains (refuse status) := fun _ => .refl

/-! ### Events -/

theorem State.moves_keepCapture (s : State) (t : TrunkId) (v : Value) : s.Moves (s.keepCapture t v) := by
  unfold State.keepCapture
  split
  next hroom =>
    exact s.moves_tap _ fun _ => by
      simp only [List.length_append, List.length_singleton]
      exact hroom
  · have hdrop := (s.moves_tap { s.tap with overflow := satAdd s.tap.overflow 1, dropLogged := true } id).trans
      (State.moves_raise _ .tapOverflow)
    dsimp only
    split
    · exact hdrop
    · exact hdrop.trans (State.moves_writeRecord _ _)

theorem State.moves_capture (s : State) (t : TrunkId) (values : List Value) : s.Moves (s.capture t values) := by
  unfold State.capture
  split
  · split
    · split
      · exact (s.moves_keepCapture t _).trans (State.moves_tap _ _ id)
      · exact .refl
    · exact .refl
  · exact .refl

theorem State.moves_causeBoundary (s : State) (t : TrunkId) : s.Moves (s.causeBoundary t) := by
  unfold State.causeBoundary
  split
  next hf => exact s.moves_modifyGroup _ _ (.due (some t) (Group.following_of_follows hf))
  · exact .refl

theorem Receive.completes_iff {marker : Bool} {rx : Receive} :
    rx.completes marker = true ↔ rx.state = .aligned ∧ (marker = true ∨ rx.missCount < 2) := by
  simp [Receive.completes]

theorem State.moves_completeFrame {s : State} {t : TrunkId} {marker : Bool} (h : (s.trunk t).rx.completes marker = true)
    (line : LineBits) : s.Moves (s.completeFrame t marker line) := by
  obtain ⟨ha, hm⟩ := Receive.completes_iff.mp h
  unfold State.completeFrame
  dsimp only
  refine ((s.moves_modifyTrunk t _ (.frame _ line ha ?_)).trans (State.moves_capture _ t _)).trans
    (State.moves_causeBoundary _ t)
  obtain rfl | hm := hm
  · exact Nat.zero_le 2
  · cases marker
    · exact hm
    · exact Nat.zero_le 2

@[simp] theorem State.settleFollower_trunk_rx (s : State) (t t' : TrunkId) :
    ((s.settleFollower t).trunk t').rx = (s.trunk t').rx := by
  unfold State.settleFollower
  split
  · exact s.settleBoundary_trunk_rx _ t'
  · rfl

theorem State.moves_seeMarker (s : State) (t : TrunkId) (position : Nat) : s.Moves (s.seeMarker t position) := by
  unfold State.seeMarker
  split
  next hhunt =>
    dsimp only
    split
    · exact (s.moves_modifyTrunk t _ (.align _ hhunt rfl rfl)).trans (State.moves_becomesAligned (by simp))
    · exact s.moves_modifyTrunk t _ (.receive { (s.trunk t).rx with candidate := some position } Iff.rfl le_rfl)
  · exact .refl
  · exact .refl

theorem State.moves_millisecond (s : State) : s.Moves s.millisecond := by
  have houtside : s.Moves { s with
      uptime := s.uptime + 1#32
      link := { s.link with receiver := { s.link.receiver with gap := s.link.receiver.gap.map (· + 1) } } } :=
    Move.moves (.outside _ rfl rfl id id id .same le_rfl)
  refine houtside.trans (Move.moves (.groups _ fun g => ?_))
  simp only [Fin.getElem_fin, Vector.getElem_ofFn, Fin.eta]
  refine .count _ rfl rfl rfl ?_ rfl rfl rfl
  change (graceStep (s.group g).graceTimer).isSome = (s.group g).graceTimer.isSome
  cases (s.group g).graceTimer <;> rfl

theorem State.moves_generatorFires {s : State} {g : GroupId} {p : Time} (h : (s.group g).generator = some p) :
    s.Moves (s.generatorFires g p) := by
  have hdue : ((s.advance p).group g).generator.isSome = true := by simp [h]
  unfold State.generatorFires
  have hboundary : (s.advance p).Moves ((s.advance p).takeBoundary g { time := p, cause := none }) :=
    State.moves_takeBoundary (.inr ⟨hdue, le_max_right _ _⟩)
  have hkept : (((s.advance p).takeBoundary g { time := p, cause := none }).group g).generator.isSome = true := by
    rw [State.takeBoundary_group, if_pos rfl, Group.recordBoundary_generator, hdue]
  generalize (s.advance p).takeBoundary g { time := p, cause := none } = v at hboundary hkept ⊢
  refine ((s.moves_advance p).trans hboundary).trans (v.moves_modifyGroup g _ ?_)
  exact .count _ rfl rfl hkept.symm rfl rfl rfl rfl

theorem State.moves_goodByte (s : State) (b : Byte) : s.Moves (s.goodByte b) := by
  unfold State.goodByte
  dsimp only
  split
  · split
    · exact s.moves_link _ rfl
    · exact .refl
  · split
    · exact s.moves_link _ rfl
    · exact s.moves_dropMessage _
  · exact s.moves_link _ rfl
  · exact s.moves_link _ rfl

theorem State.moves_badByte (s : State) (k : DiscardKind) : s.Moves (s.badByte k) := by
  unfold State.badByte
  split
  · exact .refl
  · exact s.moves_dropMessage k
  · exact s.moves_dropMessage k
  · exact s.moves_dropMessage k

/-! ### The events by name -/

/-- RECEIVE_FRAME_END as an event (R22). -/
def State.frameEnd (t : TrunkId) (time : Time) (marker : Bool) (line : LineBits) (s : State) : State :=
  if (s.trunk t).rx.completes marker then ((s.settleFollower t).advance time).completeFrame t marker line else s

/-- LOSS_OF_ALIGNMENT as an event (R21). -/
def State.loss (t : TrunkId) (time : Time) (s : State) : State :=
  if (s.trunk t).rx.losesAlignment then (((s.settleFollower t).advance time).loseAlignment t).reportLoss t else s

/-- GROUP_BOUNDARY as an event (R47). -/
def State.dueBoundary (g : GroupId) (s : State) : State :=
  match (s.group g).due with
  | some b => s.takeBoundary g b
  | none => s

/-- GENERATOR_BOUNDARY as an event (R48). -/
def State.generatorBoundary (g : GroupId) (s : State) : State :=
  match (s.group g).generator with
  | some p => s.generatorFires g p
  | none => s

/-- TRANSMIT_FRAME_START as an event (R28). -/
def State.frameStart (t : TrunkId) (s : State) : State :=
  if (s.trunk t).tx.state = .run ∧ (s.trunk t).tx.startDue then s.transmitStart t else s

/-- GRACE_EXPIRY as an event (R57). -/
def State.graceExpiry (g : GroupId) (s : State) : State := if (s.group g).expiryDue then s.expire g else s

/-- LINK_BYTE_ARRIVAL as an event (R158, R159). -/
def State.byteArrives (b : Byte) (parity framing overrun : Bool) (s : State) : State :=
  match byteError parity framing overrun with
  | some k => s.badByte k
  | none => s.goodByte b

theorem exec_huntMarker (t : TrunkId) (position : Nat) (s : State) :
    exec (.huntMarker t position) s = event (State.seeMarker t position) s := rfl

theorem exec_receiveFrameEnd (t : TrunkId) (time : Time) (marker : Bool) (line : LineBits) (s : State) :
    exec (.receiveFrameEnd t time marker line) s = event (State.frameEnd t time marker line) s := rfl

theorem exec_lossOfAlignment (t : TrunkId) (time : Time) (s : State) :
    exec (.lossOfAlignment t time) s = event (State.loss t time) s := rfl

theorem exec_groupBoundary (g : GroupId) (s : State) : exec (.groupBoundary g) s = event (State.dueBoundary g) s := rfl

theorem exec_generatorBoundary (g : GroupId) (s : State) :
    exec (.generatorBoundary g) s = event (State.generatorBoundary g) s := rfl

theorem exec_transmitFrameStart (t : TrunkId) (s : State) :
    exec (.transmitFrameStart t) s = event (State.frameStart t) s := rfl

theorem exec_millisecondStep (s : State) : exec .millisecondStep s = event State.millisecond s := rfl

theorem exec_graceExpiry (g : GroupId) (s : State) : exec (.graceExpiry g) s = event (State.graceExpiry g) s := rfl

theorem exec_linkByteArrival (b : Byte) (parity framing overrun : Bool) (s : State) :
    exec (.linkByteArrival b parity framing overrun) s = event (State.byteArrives b parity framing overrun) s := rfl

theorem exec_messageSent (strap : Bool) (s : State) : exec (.messageSent strap) s = event (State.messageSent strap) s := rfl

theorem State.moves_frameEnd (s : State) (t : TrunkId) (time : Time) (marker : Bool) (line : LineBits) :
    s.Moves (s.frameEnd t time marker line) := by
  have hchain := (s.moves_settleFollower t).trans (State.moves_advance _ time)
  unfold State.frameEnd
  split
  next h =>
    rw [← s.settleFollower_trunk_rx t t] at h
    generalize s.settleFollower t = v at h hchain ⊢
    exact hchain.trans (State.moves_completeFrame (s := v.advance time) h line)
  · exact .refl

theorem State.moves_lossEvent (s : State) (t : TrunkId) (time : Time) : s.Moves (s.loss t time) := by
  have hchain := (s.moves_settleFollower t).trans (State.moves_advance _ time)
  have hdue := s.settleFollower_due t
  unfold State.loss
  split
  · generalize s.settleFollower t = v at hdue hchain ⊢
    exact hchain.trans (State.moves_loss hdue)
  · exact .refl

theorem State.moves_dueBoundary (s : State) (g : GroupId) : s.Moves (s.dueBoundary g) := by
  unfold State.dueBoundary
  split
  next b hb => exact State.moves_takeBoundary (.inl hb)
  · exact .refl

theorem State.moves_generatorBoundary (s : State) (g : GroupId) : s.Moves (s.generatorBoundary g) := by
  unfold State.generatorBoundary
  split
  next p hp => exact State.moves_generatorFires hp
  · exact .refl

theorem State.moves_frameStart (s : State) (t : TrunkId) : s.Moves (s.frameStart t) := by
  unfold State.frameStart
  split
  next hrun => exact State.moves_transmitStart hrun.1
  · exact .refl

theorem State.moves_graceExpiry (s : State) (g : GroupId) : s.Moves (s.graceExpiry g) := by
  unfold State.graceExpiry
  split
  next hdue => exact State.moves_expire hdue
  · exact .refl

theorem State.moves_byteArrives (s : State) (b : Byte) (parity framing overrun : Bool) :
    s.Moves (s.byteArrives b parity framing overrun) := by
  unfold State.byteArrives
  split
  · exact s.moves_badByte _
  · exact s.moves_goodByte b

/-! ### What waits in the outgoing queue -/

/-- A move changes the outgoing queue only as the end of an event. -/
theorem Move.outgoing {s t : State} (h : Move s t) : t.link.outgoing = s.link.outgoing ∨ t = s.finish := by
  cases h with
  | outside _ _ hlink => exact .inl hlink
  | trunks => exact .inl rfl
  | groups => exact .inl rfl
  | pairs => exact .inl rfl
  | leaveAlignment => exact .inl rfl
  | start => exact .inl rfl
  | halt t =>
    left
    unfold State.haltTransmit
    dsimp only
    split <;> rfl
  | reformat => exact .inl rfl
  | clearForced t => exact .inl (by simp)
  | stage d e => obtain ⟨i, -, h⟩ | ⟨-, -, h⟩ | ⟨-, -, h⟩ := stageEntry_eq d e s <;> exact .inl (by rw [h]; rfl)
  | withdraw => exact .inl rfl
  | discard => exact .inl rfl
  | apply p => exact .inl (by simp)
  | commit => exact .inl (by simp [State.putInFlight])
  | finish => exact .inr rfl

/-- The outgoing queue at the end of an event: a notice asked for stands at the end, and one at the head has its content. -/
theorem State.finish_replyWaiting {s : State} (h : s.replyWaiting = false) : s.finish.replyWaiting = false := by
  have hq : s.queueNotice.replyWaiting = false := by
    unfold State.queueNotice
    split
    · unfold State.replyWaiting at h ⊢
      cases hout : s.link.outgoing with
      | nil => simp [State.enqueue, hout]
      | cons m rest => simpa [State.enqueue, hout, OutMessage.isReply] using h
    · exact h
  unfold State.finish State.beginSending
  split
  next rest hout => simpa [State.replyWaiting, hout] using hq
  · exact hq

/-- While no reply waits, a chain of moves brings none. -/
theorem State.Moves.replyWaiting {s u : State} (h : s.Moves u) (hs : s.replyWaiting = false) : u.replyWaiting = false := by
  refine h.keeps (P := fun v => v.replyWaiting = false) (fun v w hvw hv => ?_) hs
  obtain hout | rfl := hvw.outgoing
  · simpa [State.replyWaiting, hout] using hv
  · exact State.finish_replyWaiting hv

/-! ### Commands -/

theorem Event.of_event {body : State → State} (hbody : ∀ s : State, s.Moves (body s)) {s t : State}
    (h : event body s = .next t) : Event s t := by
  unfold event at h
  split at h
  · cases h; exact .idle
  · cases h; exact .quiet _ (s.moves_settle.trans (hbody _))

theorem Event.of_followOn {due : State → Bool} {body : State → State} (hbody : ∀ s : State, s.Moves (body s)) {s t : State}
    (h : followOn due body s = .next t) : Event s t := by
  unfold followOn at h
  split at h
  · cases h; exact .idle
  · cases h; exact .quiet _ (hbody _)

theorem Event.of_serve {r : Request} {handler : Handler} (hhandler : handler.Chains) {s t : State}
    (h : serve r handler s = .next t) : Event s t := by
  unfold serve event at h
  split at h
  · cases h; exact .idle
  · cases h
    have hoffer : s.Moves (if s.settle.link.requestBuffer = some r then s.settle else s.settle.offerRequest r) := by
      refine s.moves_settle.trans ?_
      split
      · exact .refl
      · exact State.moves_offerRequest _ _
    dsimp only
    generalize (if s.settle.link.requestBuffer = some r then s.settle else s.settle.offerRequest r) = v at hoffer ⊢
    split
    next hready =>
      rw [State.finish_take]
      exact .answered _ _ _ (hoffer.trans (hhandler v)) ((hhandler v).replyWaiting hready.2)
    · exact .quiet _ hoffer

theorem Event.of_taken {i : Instr} {handler : Handler} (hhandler : handler.Chains) {s t : State}
    (h : taken i handler s = .next t) : Event s t := by
  unfold taken at h
  split at h
  · exact .of_serve hhandler h
  · cases h; exact .idle

theorem Event.of_messageSent {strap : Bool} {s t : State} (h : execMessageSent strap s = .next t) : Event s t := by
  unfold execMessageSent event at h
  split at h
  · cases h; exact .idle
  · cases h
    have hsettle := s.moves_settle
    unfold State.messageSent
    split
    · exact .quiet _ hsettle
    next head rest hout =>
      split
      · exact .restart _ strap hsettle
      · exact .sent _ head _ hsettle hout

theorem Event.of_messageComplete {s t : State} (h : execMessageComplete s = .next t) : Event s t := by
  refine .of_followOn (fun s => ?_) h
  split
  · exact s.moves_completeMessage _
  · exact .refl

/-- Every command ends in one of the ways of `Event`. -/
theorem exec_event {i : Instr} {s t : State} (h : exec i s = .next t) : Event s t := by
  cases i with
  | setContext a b => exact .of_taken (i := .setContext a b) (chains_setContext a b) h
  | getContext => exact .of_taken (i := .getContext) (handler := handleGetContext) (fun _ => .refl) h
  | format a l w idle e => exact .of_taken (i := .format a l w idle e) (chains_format a l w idle e) h
  | unknownCommand code payload =>
    change execUnknownCommand code payload s = _ at h
    unfold execUnknownCommand at h
    split at h
    · cases h; exact .idle
    · exact .of_taken (chains_refuse _) h
  | rxRun a => exact .of_taken (i := .rxRun a) (chains_rxRun a) h
  | rxHold time a => exact .of_taken (i := .rxHold time a) (chains_rxHold time a) h
  | txRun time a => exact .of_taken (i := .txRun time a) (chains_txRun time a) h
  | txHold a => exact .of_taken (i := .txHold a) (chains_txHold a) h
  | setMask a b m => exact .of_taken (i := .setMask a b m) (chains_setMask a b m) h
  | trunkStatus a b => exact .of_taken (i := .trunkStatus a b) (chains_trunkStatus a b) h
  | groupMove a b => exact .of_taken (i := .groupMove a b) (chains_groupMove a b) h
  | groupSet g k j grace policy rate limit => exact .of_taken (i := .groupSet g k j grace policy rate limit) (chains_groupSet g k j grace policy rate limit) h
  | revert a => exact .of_taken (i := .revert a) (chains_revert a) h
  | meterClear a => exact .of_taken (i := .meterClear a) (chains_meterClear a) h
  | groupStatus a => exact .of_taken (i := .groupStatus a) (chains_groupStatus a) h
  | slipStatus a b => exact .of_taken (i := .slipStatus a b) (chains_slipStatus a b) h
  | slipClear a b => exact .of_taken (i := .slipClear a b) (chains_slipClear a b) h
  | mapRead a b c d => exact .of_taken (i := .mapRead a b c d) (chains_mapRead a b c d) h
  | stageLink r q => exact .of_taken (i := .stageLink r q) (chains_stageLink r q) h
  | stageOpen r => exact .of_taken (i := .stageOpen r) (chains_stageOpen r) h
  | stageForce r v => exact .of_taken (i := .stageForce r v) (chains_stageForce r v) h
  | stageHold r => exact .of_taken (i := .stageHold r) (chains_stageHold r) h
  | stagePlay r => exact .of_taken (i := .stagePlay r) (chains_stagePlay r) h
  | unstage r => exact .of_taken (i := .unstage r) (chains_unstage r) h
  | discard => exact .of_taken (i := .discard) chains_discard h
  | commit => exact .of_taken (i := .commit) chains_commit h
  | batchStatus => exact .of_taken (i := .batchStatus) (handler := handleBatchStatus) (fun _ => .refl) h
  | listRead a b => exact .of_taken (i := .listRead a b) (chains_listRead a b) h
  | tapStart r count => exact .of_taken (i := .tapStart r count) (chains_tapStart r count) h
  | tapStop => exact .of_taken (i := .tapStop) chains_tapStop h
  | tapRead n => exact .of_taken (i := .tapRead n) (chains_tapRead n) h
  | playLoad values => exact .of_taken (i := .playLoad values) (chains_playLoad values) h
  | playFlush => exact .of_taken (i := .playFlush) chains_playFlush h
  | playStatus a => exact .of_taken (i := .playStatus a) (chains_playStatus a) h
  | attentionRead => exact .of_taken (i := .attentionRead) chains_attentionRead h
  | ack a => exact .of_taken (i := .ack a) (chains_ack a) h
  | attentionMask a => exact .of_taken (i := .attentionMask a) (chains_attentionMask a) h
  | logRead n => exact .of_taken (i := .logRead n) (chains_logRead n) h
  | logClear => exact .of_taken (i := .logClear) chains_logClear h
  | identify => exact .of_taken (i := .identify) (handler := handleIdentify) (fun _ => .refl) h
  | restart => exact .of_taken (i := .restart) chains_restart h
  | linkStatus a => exact .of_taken (i := .linkStatus a) (chains_linkStatus a) h
  | huntMarker t position => exact .of_event (fun s => s.moves_seeMarker t position) h
  | receiveFrameEnd t time marker line => exact .of_event (fun s => s.moves_frameEnd t time marker line) h
  | tapRunEnd => exact .of_followOn State.moves_endTapRun h
  | lossOfAlignment t time => exact .of_event (fun s => s.moves_lossEvent t time) h
  | groupBoundary g => exact .of_event (fun s => s.moves_dueBoundary g) h
  | generatorBoundary g => exact .of_event (fun s => s.moves_generatorBoundary g) h
  | transmitFrameStart t => exact .of_event (fun s => s.moves_frameStart t) h
  | millisecondStep => exact .of_event State.moves_millisecond h
  | graceExpiry g => exact .of_event (fun s => s.moves_graceExpiry g) h
  | interByteTimeout => exact .of_followOn (body := State.timeOut) (fun s => s.moves_dropMessage .timeout) h
  | linkByteArrival b parity framing overrun =>
    exact .of_event (fun s => s.moves_byteArrives b parity framing overrun) h
  | messageComplete => exact .of_messageComplete h
  | messageSent strap => exact .of_messageSent h
  | powerOn => cases h; exact .reset .power
  | resetInputAsserted => cases h; exact .reset .line
  | startUp strap =>
    change execStartUp strap s = _ at h
    unfold execStartUp at h
    split at h
    · cases h; exact .startUp _ strap
    all_goals cases h; exact .idle
  | payloadSizeWrong code payload =>
    change execPayloadSizeWrong code payload s = _ at h
    unfold execPayloadSizeWrong at h
    split at h
    · exact .of_taken (chains_refuse _) h
    · cases h; exact .idle

end Sys2Proof.Machine
end

section
/-! LAWS. A law that every move keeps, every step keeps (`Kept.step`); the laws of timing, following, clock and
marks are of this kind. -/

namespace Sys2Proof.Machine

/-! ### From moves to steps -/

/-- A law that sees neither the link nor the queue of commands, holds after a reset, and is kept by every move. -/
structure Kept (P : State → Prop) : Prop where
  move : ∀ s t, Move s t → P s → P t
  link : ∀ (s : State) (l : Link), P s → P { s with link := l }
  pending : ∀ (s : State) (q : List Instr), P s → P { s with pending := q }
  reset : ∀ (s : State) (kind : ResetKind), P s → P (s.resetBy kind)

theorem Kept.moves {P : State → Prop} (hP : Kept P) {s u : State} (h : s.Moves u) : P s → P u := h.keeps hP.move

theorem Kept.startUpAfter {P : State → Prop} (hP : Kept P) {s : State} (kind : ResetKind) (strap : Bool) (hs : P s) :
    P (s.startUpAfter kind strap) := hP.moves (State.moves_writeRecord _ _) (hP.link s _ hs)

theorem Kept.event {P : State → Prop} (hP : Kept P) {s t : State} (h : Event s t) (hs : P s) : P t := by
  have hfinish : ∀ u : State, P u → P u.finish := fun u => hP.move u _ .finish
  cases h with
  | idle => exact hs
  | quiet u h => exact hfinish _ (hP.moves h hs)
  | answered u code payload h => exact hfinish _ (hP.link u _ (hP.moves h hs))
  | sent u m link h => exact hfinish _ (hP.link u _ (hP.moves h hs))
  | reset kind => exact hP.reset s kind hs
  | startUp kind strap => exact hfinish _ (hP.startUpAfter kind strap hs)
  | restart u strap h => exact hfinish _ (hP.startUpAfter .command strap (hP.reset u .command (hP.moves h hs)))

/-- What a step is: the front command's event, on the state with the queue's rest. -/
theorem step_event {s t : State} (h : step s = .next t) : ∃ q, Event { s with pending := q } t := by
  unfold step at h
  split at h
  · cases h; exact ⟨s.pending, .idle⟩
  next c rest _ => exact ⟨rest, exec_event h⟩

theorem Kept.step {P : State → Prop} (hP : Kept P) {s t : State} (h : step s = .next t) (hs : P s) : P t := by
  obtain ⟨q, h⟩ := step_event h
  exact hP.event h (hP.pending s q hs)

/-! ### What the composite moves leave -/

theorem State.leaveAlignment_trunk (s : State) (t t' : TrunkId) (rx : Receive) :
    (s.leaveAlignment t rx).trunk t' =
      if t' = t then { s.trunk t with rx := rx, rxMask := (s.trunk t).rxMask.activate, store := .empty } else s.trunk t' := by
  simp only [State.leaveAlignment, State.invalidate, State.mapPairs_trunk, State.trunk_modifyTrunk]
  split <;> rfl

theorem State.leaveAlignment_pair (s : State) (t : TrunkId) (rx : Receive) (g : GroupId) (t' : TrunkId) :
    (s.leaveAlignment t rx).pair g t' = if t' = t then { s.pair g t' with mark := none } else s.pair g t' :=
  State.pair_mapPairs ..

/-- Whether the stop of `t` stops its group: it runs, and no other RUN member is left. -/
def State.haltStops (t : TrunkId) (s : State) : Prop :=
  (s.group (s.trunk t).group).state ≠ .stopped ∧
    (s.modifyTrunk t fun k => { k with tx := .reset }).hasRunMember (s.trunk t).group = false

theorem State.haltTransmit_of_stops {s : State} {t : TrunkId} (h : s.haltStops t) :
    s.haltTransmit t = (s.modifyTrunk t fun k => { k with tx := .reset }).stopGroup (s.trunk t).group := by
  have hg : ((s.modifyTrunk t fun k => { k with tx := Transmit.reset }).trunk t).group = (s.trunk t).group := by simp
  unfold State.haltTransmit
  dsimp only
  rw [hg]
  exact if_pos h

theorem State.haltTransmit_of_not_stops {s : State} {t : TrunkId} (h : ¬s.haltStops t) :
    s.haltTransmit t = s.modifyTrunk t fun k => { k with tx := .reset } := by
  have hg : ((s.modifyTrunk t fun k => { k with tx := Transmit.reset }).trunk t).group = (s.trunk t).group := by simp
  unfold State.haltTransmit
  dsimp only
  rw [hg]
  exact if_neg h

theorem State.haltTransmit_trunk (s : State) (t t' : TrunkId) :
    (s.haltTransmit t).trunk t' = if t' = t then { s.trunk t with tx := .reset } else s.trunk t' := by
  have h : (s.haltTransmit t).trunk t' = (s.modifyTrunk t fun k => { k with tx := .reset }).trunk t' := by
    unfold State.haltTransmit
    dsimp only
    split <;> rfl
  rw [h, State.trunk_modifyTrunk]

/-- The record of a group that stops (R46). -/
def Group.halted (u : Group) : Group := { u with state := .stopped, graceTimer := none, generator := none, due := none }

open Classical in
theorem State.haltTransmit_group (s : State) (t : TrunkId) (g : GroupId) :
    (s.haltTransmit t).group g = if g = (s.trunk t).group ∧ s.haltStops t then (s.group g).halted else s.group g := by
  by_cases h : s.haltStops t
  · rw [State.haltTransmit_of_stops h, State.stopGroup, State.mapPairs_group, State.group_modifyGroup]
    by_cases hg : g = (s.trunk t).group
    · simp [hg, h, Group.halted]
    · simp [hg]
  · simp [State.haltTransmit_of_not_stops h, h]

open Classical in
theorem State.haltTransmit_pair (s : State) (t : TrunkId) (g : GroupId) (t' : TrunkId) :
    (s.haltTransmit t).pair g t' =
      if g = (s.trunk t).group ∧ s.haltStops t then { s.pair g t' with mark := none, snapshot := none }
      else s.pair g t' := by
  by_cases h : s.haltStops t
  · rw [State.haltTransmit_of_stops h, State.stopGroup, State.pair_mapPairs]
    simp [h]
  · simp [State.haltTransmit_of_not_stops h, h]

@[simp] theorem State.haltTransmit_fields (s : State) (t : TrunkId) :
    (s.haltTransmit t).map = s.map ∧ (s.haltTransmit t).changes = s.changes ∧ (s.haltTransmit t).batch = s.batch ∧
      (s.haltTransmit t).lastBatch = s.lastBatch ∧ (s.haltTransmit t).nextBatch = s.nextBatch ∧
      (s.haltTransmit t).tap = s.tap ∧ (s.haltTransmit t).playout = s.playout ∧
      (s.haltTransmit t).attention = s.attention ∧ (s.haltTransmit t).log = s.log ∧
      (s.haltTransmit t).link = s.link ∧ (s.haltTransmit t).now = s.now ∧ (s.haltTransmit t).pending = s.pending := by
  unfold State.haltTransmit State.stopGroup
  dsimp only
  split <;> simp

theorem State.reformat_trunk (s : State) (t t' : TrunkId) (f : Format) :
    (s.reformat t f).trunk t' =
      if t' = t then
        { s.trunk t with
          format := f
          rxMask := (s.trunk t).rxMask.resize (s.trunk t).format.length f.length
          txMask := (s.trunk t).txMask.resize (s.trunk t).format.length f.length }
      else s.trunk t' := by
  simp only [State.reformat, State.trunk_modifyTrunk, State.mapEntries_trunk]

/-- The placing of a staged entry changes the change list alone. -/
theorem stageEntry_state (d : FullSlot) (e : MapEntry) (s : State) :
    ∃ changes, (stageEntry d e s).2 = { s with changes := changes } := by
  obtain ⟨i, -, h⟩ | ⟨-, -, h⟩ | ⟨-, -, h⟩ := stageEntry_eq d e s
  · exact ⟨_, by rw [h]; rfl⟩
  · exact ⟨_, by rw [h]; rfl⟩
  · exact ⟨s.changes, by rw [h]; rfl⟩

/-- COMMIT changes the map, the change list, the batch with its records and the attention unit alone. -/
theorem State.commit_eq (s : State) (p : TrunkId → Bool) :
    ∃ map changes batch nextBatch lastBatch attention, s.putInFlight.applyInFlight p =
      { s with map := map, changes := changes, batch := batch, nextBatch := nextBatch, lastBatch := lastBatch
               attention := attention } := by
  obtain ⟨m, c, b, lb, a, h⟩ := s.putInFlight.applyInFlight_eq p
  rw [h]
  exact ⟨_, _, _, _, _, _, rfl⟩

/-- The end of an event changes the outgoing queue and the attention unit alone. -/
theorem State.finish_state (s : State) :
    ∃ link attention, s.finish = { s with link := link, attention := attention } := by
  obtain ⟨out, w, h⟩ := s.finish_eq
  exact ⟨_, _, h⟩

theorem State.clearForced_state (s : State) (t : TrunkId) : ∃ map, s.clearForced t = { s with map := map } := by
  unfold State.clearForced
  split
  · exact ⟨s.map, rfl⟩
  · exact ⟨_, rfl⟩

/-- A move by what it makes of the tables of trunks, groups and pairs: those not named leave all three. -/
theorem Move.tables_cases {P : State → Prop} {s u : State} (h : Move s u)
    (quiet : ∀ u : State, u.trunks = s.trunks → u.groups = s.groups → u.pairs = s.pairs → s.now ≤ u.now → P u)
    (trunks : ∀ trunks : Vector Trunk 8, (∀ t : TrunkId, TrunkMove s t trunks[t]) → P { s with trunks := trunks })
    (groups : ∀ groups : Vector Group 4, (∀ g : GroupId, GroupMove s g groups[g]) → P { s with groups := groups })
    (pairs : ∀ f, (∀ g t, PairMove s g t (f g t (s.pair g t))) → P (s.mapPairs f))
    (leave : ∀ t rx, rx.state ≠ .aligned →
      ((s.trunk t).rx.state = .aligned → (s.group (s.trunk t).group).follows t = false) → P (s.leaveAlignment t rx))
    (start : ∀ (t : TrunkId) (u : Group), (s.trunk t).tx.state = .held → (s.group (s.trunk t).group).state = .stopped →
      u.config = (s.group (s.trunk t).group).config → u.state ≠ .stopped → u.state ≠ .standby →
      (u.state = .locked → s.primaryAligned (s.trunk t).group = true) → u.generator.isSome = u.state.generatorTimed →
      (s.TimingLaw → u.graceTimer.isSome = u.state.hasGrace) → u.due = none → u.previous = none → u.lastLocked = none →
      P ((s.modifyTrunk t fun k => { k with tx := { Transmit.reset with state := .run } }).modifyGroup
        (s.trunk t).group fun _ => u))
    (halt : ∀ t, P (s.haltTransmit t)) (reformat : ∀ t f, (s.trunk t).rx.state = .held → P (s.reformat t f)) : P u := by
  cases h with
  | outside u heq _ _ _ _ _ hnow => exact quiet _ (by rw [heq]) (by rw [heq]) (by rw [heq]) hnow
  | trunks ks h => exact trunks ks h
  | groups gs h => exact groups gs h
  | pairs f h => exact pairs f h
  | leaveAlignment t rx hstate _ hfree => exact leave t rx hstate hfree
  | start t u h1 h2 h3 h4 h5 h6 h7 h8 h9 h10 h11 => exact start t u h1 h2 h3 h4 h5 h6 h7 h8 h9 h10 h11
  | halt t => exact halt t
  | reformat t f _ _ _ hrx => exact reformat t f hrx
  | clearForced t =>
    obtain ⟨m, h⟩ := s.clearForced_state t
    rw [h]
    exact quiet _ rfl rfl rfl le_rfl
  | stage d e =>
    obtain ⟨c, h⟩ := stageEntry_state d e s
    rw [h]
    exact quiet _ rfl rfl rfl le_rfl
  | withdraw => exact quiet _ rfl rfl rfl le_rfl
  | discard => exact quiet _ rfl rfl rfl le_rfl
  | apply p =>
    obtain ⟨m, c, b, lb, a, h⟩ := s.applyInFlight_eq p
    rw [h]
    exact quiet _ rfl rfl rfl le_rfl
  | commit =>
    obtain ⟨m, c, b, n, lb, a, h⟩ := s.commit_eq s.putInFlight.txHeld
    rw [h]
    exact quiet _ rfl rfl rfl le_rfl
  | finish =>
    obtain ⟨l, a, h⟩ := s.finish_state
    rw [h]
    exact quiet _ rfl rfl rfl le_rfl

/-! ### The timing laws -/

theorem State.hasRunMember_iff {s : State} {g : GroupId} :
    s.hasRunMember g = true ↔ ∃ t, (s.trunk t).runMember g = true := by
  simp [State.hasRunMember, allTrunks]

theorem State.hasRunMember_congr {s u : State} {g : GroupId}
    (h : ∀ t, (u.trunk t).runMember g = (s.trunk t).runMember g) : u.hasRunMember g = s.hasRunMember g :=
  Bool.eq_iff_iff.mpr (by simp only [State.hasRunMember_iff, h])

theorem TrunkMove.runMember {s : State} {t : TrunkId} {k : Trunk} (h : TrunkMove s t k) {g : GroupId}
    (hg : (s.trunk t).runMember g = true) : k.runMember g = true := by
  obtain ⟨hmember, hrun⟩ := Trunk.runMember_iff.mp hg
  cases h with
  | join g' hheld => rw [hheld] at hrun; exact absurd hrun (by simp)
  | run hheld => rw [hheld] at hrun; exact absurd hrun (by simp)
  | _ => exact hg

theorem TrunkMove.of_runMember {s : State} {t : TrunkId} {k : Trunk} (h : TrunkMove s t k) {g : GroupId}
    (hg : k.runMember g = true) : (s.trunk t).runMember g = true ∨ (s.group g).state ≠ .stopped := by
  obtain ⟨hmember, hrun⟩ := Trunk.runMember_iff.mp hg
  cases h with
  | join g' hheld => exact absurd (hheld.symm.trans hrun) (by simp)
  | run hheld hgroup => exact .inr (hmember ▸ hgroup)
  | _ => exact .inl hg

/-- The part of the timing law that is about a group's own record. -/
abbrev Group.Timed (u : Group) : Prop :=
  u.generator.isSome = u.state.generatorTimed ∧ u.graceTimer.isSome = u.state.hasGrace ∧
    (u.due.isSome = true → u.state.following = true)

theorem GroupMove.stopped_iff {s : State} {g : GroupId} {u : Group} (h : GroupMove s g u) :
    u.state = .stopped ↔ (s.group g).state = .stopped := by
  cases h with
  | count _ _ hstate => rw [hstate]
  | boundary b => rw [Group.recordBoundary_state]
  | locked hrun => simp [hrun]
  | standby hrun => simp [hrun]
  | holdover _ _ _ hfollowing =>
    simp only [reduceCtorEq, false_iff]
    intro h
    rw [h] at hfollowing
    exact absurd hfollowing (by decide)
  | degraded hgrace =>
    simp only [reduceCtorEq, false_iff]
    intro h
    rw [h] at hgrace
    exact absurd hgrace (by decide)
  | _ => exact Iff.rfl

theorem GroupMove.timed {s : State} {g : GroupId} {u : Group} (h : GroupMove s g u) (hs : s.TimingLaw) : u.Timed := by
  obtain ⟨hgen, hgrace, hdue, hmember⟩ := hs g
  cases h with
  | count _ _ hstate hgen' hgrace' hdue' => exact ⟨hgen'.trans (hstate ▸ hgen), hgrace'.trans (hstate ▸ hgrace), hstate ▸ hdue' ▸ hdue⟩
  | configure => exact ⟨hgen, hgrace, hdue⟩
  | due _ hfollowing => exact ⟨hgen, hgrace, fun _ => hfollowing⟩
  | boundary b => simpa [Group.Timed] using ⟨hgen, hgrace⟩
  | locked => exact ⟨rfl, rfl, fun _ => rfl⟩
  | standby => exact ⟨rfl, rfl, fun _ => rfl⟩
  | holdover _ _ _ _ hnone => exact ⟨rfl, rfl, fun h => by simp [hnone] at h⟩
  | degraded hrunning =>
    have htimed : (s.group g).state.generatorTimed = true ∧ (s.group g).state.following = false := by
      revert hrunning
      cases (s.group g).state <;> decide
    exact ⟨hgen.trans htimed.1, rfl, fun h => absurd (hdue h) (by simp [htimed.2])⟩
  | dropGrace hnone =>
    have hstopped : (s.group g).state = .stopped := not_not.mp fun h => by simpa [hnone] using hmember.mp h
    exact ⟨hgen, by rw [hstopped]; rfl, hdue⟩

/-- A group that starts has its first RUN member. -/
theorem timingLaw_start {s : State} (hs : s.TimingLaw) {t : TrunkId} {u : Group} (hrun : u.state ≠ .stopped)
    (hgen : u.generator.isSome = u.state.generatorTimed) (hgrace : u.graceTimer.isSome = u.state.hasGrace)
    (hdue : u.due = none) :
    State.TimingLaw ((s.modifyTrunk t fun k => { k with tx := { Transmit.reset with state := .run } }).modifyGroup
      (s.trunk t).group fun _ => u) := by
  intro g
  rw [State.group_modifyGroup]
  by_cases hg : g = (s.trunk t).group
  · rw [if_pos hg]
    refine ⟨hgen, hgrace, fun h => by simp [hdue] at h, fun _ => State.hasRunMember_iff.mpr ⟨t, ?_⟩, fun _ => hrun⟩
    simp [Trunk.runMember, hg]
  · rw [if_neg hg]
    have hm : State.hasRunMember g ((s.modifyTrunk t fun k => { k with tx := { Transmit.reset with state := .run } }).modifyGroup
        (s.trunk t).group fun _ => u) = s.hasRunMember g := State.hasRunMember_congr fun t' => by
      rw [State.modifyGroup_trunk, State.trunk_modifyTrunk]
      split
      next h => simp [h, Trunk.runMember, Ne.symm hg]
      · rfl
    rw [hm]
    exact hs g

/-- A group stops with its last RUN member. -/
theorem timingLaw_halt {s : State} (hs : s.TimingLaw) (t : TrunkId) : (s.haltTransmit t).TimingLaw := by
  intro g
  obtain ⟨hgen, hgrace, hdue, hmember⟩ := hs g
  have hm : (s.haltTransmit t).hasRunMember g = (s.modifyTrunk t fun k => { k with tx := .reset }).hasRunMember g :=
    State.hasRunMember_congr fun t' => by rw [State.haltTransmit_trunk, State.trunk_modifyTrunk]
  have hfewer : (s.modifyTrunk t fun k => { k with tx := Transmit.reset }).hasRunMember g = true →
      s.hasRunMember g = true := by
    intro h
    obtain ⟨t', ht'⟩ := State.hasRunMember_iff.mp h
    rw [State.trunk_modifyTrunk] at ht'
    refine State.hasRunMember_iff.mpr ⟨t', ?_⟩
    split at ht'
    · simp [Trunk.runMember, Transmit.reset] at ht'
    · exact ht'
  rw [State.haltTransmit_group, hm]
  split
  next h =>
    obtain ⟨rfl, -, hnone⟩ := h
    exact ⟨rfl, rfl, fun h => (nomatch h), fun h => absurd rfl h, fun h => by simp [hnone] at h⟩
  next h =>
    refine ⟨hgen, hgrace, hdue, fun hrun => ?_, fun h => hmember.mpr (hfewer h)⟩
    by_cases hg : g = (s.trunk t).group
    · subst hg
      by_contra hnone
      exact h ⟨rfl, hrun, by simpa using hnone⟩
    · obtain ⟨t', ht'⟩ := State.hasRunMember_iff.mp (hmember.mp hrun)
      refine State.hasRunMember_iff.mpr ⟨t', ?_⟩
      rw [State.trunk_modifyTrunk]
      split
      next htt => exact absurd (Trunk.runMember_iff.mp ht').1.symm (htt ▸ hg)
      · exact ht'

theorem keeps_timingLaw {s u : State} (h : Move s u) (hs : s.TimingLaw) : u.TimingLaw := by
  refine h.tables_cases (P := State.TimingLaw) (fun u htrunks hgroups _ _ g => ?quiet) (fun ks hks g => ?trunks)
    (fun gs hgs g => ?groups) (fun _ _ => hs) (fun t rx _ _ g => ?leave)
    (fun t u _ _ _ hrun _ _ hgen hgrace hdue _ _ g => ?start) (fun t g => ?halt) (fun t f _ g => ?reformat)
  case quiet =>
    have hg : u.group g = s.group g := by simp only [State.group, hgroups]
    have hm : u.hasRunMember g = s.hasRunMember g :=
      State.hasRunMember_congr fun t => by simp only [State.trunk, htrunks]
    rw [hg, hm]
    exact hs g
  case trunks =>
    obtain ⟨hgen, hgrace, hdue, hmember⟩ := hs g
    refine ⟨hgen, hgrace, hdue, fun h => ?_, fun h => ?_⟩
    · obtain ⟨t, ht⟩ := State.hasRunMember_iff.mp (hmember.mp h)
      exact State.hasRunMember_iff.mpr ⟨t, (hks t).runMember ht⟩
    · obtain ⟨t, ht⟩ := State.hasRunMember_iff.mp h
      exact ((hks t).of_runMember ht).elim (fun hr => hmember.mpr (State.hasRunMember_iff.mpr ⟨t, hr⟩)) id
  case groups =>
    obtain ⟨hgen, hgrace, hdue⟩ := (hgs g).timed hs
    exact ⟨hgen, hgrace, hdue, (not_congr (hgs g).stopped_iff).trans (hs g).2.2.2⟩
  case leave =>
    have hm : (s.leaveAlignment t rx).hasRunMember g = s.hasRunMember g := State.hasRunMember_congr fun t' => by
      rw [State.leaveAlignment_trunk]
      split
      next h => rw [h]; rfl
      · rfl
    rw [hm]
    exact hs g
  case start => exact timingLaw_start hs hrun hgen (hgrace hs) hdue g
  case halt => exact timingLaw_halt hs t g
  case reformat =>
    have hm : (s.reformat t f).hasRunMember g = s.hasRunMember g := State.hasRunMember_congr fun t' => by
      rw [State.reformat_trunk]
      split
      next h => rw [h]; rfl
      · rfl
    rw [hm]
    exact hs g

/-! ### The reset -/

@[simp] theorem State.trunk_resetBy (s : State) (kind : ResetKind) (t : TrunkId) : (s.resetBy kind).trunk t = .reset :=
  Vector.getElem_replicate _

@[simp] theorem State.group_resetBy (s : State) (kind : ResetKind) (g : GroupId) : (s.resetBy kind).group g = .reset :=
  Vector.getElem_replicate _

@[simp] theorem State.pair_resetBy (s : State) (kind : ResetKind) (g : GroupId) (t : TrunkId) :
    (s.resetBy kind).pair g t = .reset := by
  simp [State.pair, State.resetBy, State.reset]

@[simp] theorem State.entry_resetBy (s : State) (kind : ResetKind) (d : FullSlot) : (s.resetBy kind).entry d = .opened := by
  simp [State.entry, State.resetBy, State.reset]

theorem State.resetBy_timingLaw (s : State) (kind : ResetKind) : (s.resetBy kind).TimingLaw := by
  intro g
  have hm : (s.resetBy kind).hasRunMember g = false := State.hasRunMember_eq_false.mpr fun t => by
    rw [State.trunk_resetBy]
    simp [Trunk.runMember, Trunk.reset, Transmit.reset]
  rw [State.group_resetBy, hm]
  exact ⟨rfl, rfl, fun h => (nomatch h), fun h => absurd rfl h, fun h => (nomatch h)⟩

theorem kept_timingLaw : Kept State.TimingLaw where
  move _ _ := keeps_timingLaw
  link _ _ h := h
  pending _ _ h := h
  reset s kind _ := s.resetBy_timingLaw kind

/-! ### The law of following -/

theorem State.referencesValid_iff {s : State} {g : GroupId} {c : GroupConfig} :
    s.referencesValid g c = true ↔
      (∀ t, c.primary = some t → (s.trunk t).group = g) ∧
        ∀ t, c.standby = some t → (s.trunk t).group = g ∧ c.primary ≠ none ∧ c.primary ≠ some t := by
  unfold State.referencesValid
  cases hp : c.primary with
  | none => cases hj : c.standby <;> simp
  | some k =>
    cases hj : c.standby with
    | none => simp
    | some j => simp [and_assoc, eq_comm (a := k)]

/-- Whether a reference, where there is one, is ALIGNED. -/
def State.alignedReference (s : State) (r : Option TrunkId) : Prop := ∃ k, r = some k ∧ (s.trunk k).rx.state = .aligned

theorem State.primaryAligned_iff {s : State} {g : GroupId} :
    s.primaryAligned g = true ↔ s.alignedReference (s.group g).config.primary := by
  unfold State.primaryAligned State.alignedReference
  cases (s.group g).config.primary <;> simp

theorem State.standbyAligned_iff {s : State} {g : GroupId} :
    s.standbyAligned g = true ↔ s.alignedReference (s.group g).config.standby := by
  unfold State.standbyAligned State.alignedReference
  cases (s.group g).config.standby <;> simp

theorem State.alignedReference.mono {s u : State} (h : ∀ k, (s.trunk k).rx.state = .aligned → (u.trunk k).rx.state = .aligned)
    {r : Option TrunkId} (hr : s.alignedReference r) : u.alignedReference r :=
  hr.imp fun k hk => ⟨hk.1, h k hk.2⟩

theorem TrunkMove.aligned {s : State} {t : TrunkId} {k : Trunk} (h : TrunkMove s t k)
    (ha : (s.trunk t).rx.state = .aligned) : k.rx.state = .aligned := by
  cases h with
  | receive _ hstate => exact hstate.mpr ha
  | align _ _ hstate => exact hstate
  | _ => exact ha

theorem TrunkMove.member {s : State} {t : TrunkId} {k : Trunk} (h : TrunkMove s t k) :
    k.group = (s.trunk t).group ∨ (s.group (s.trunk t).group).config.names t = false := by
  cases h with
  | join _ _ hfree => exact .inr hfree
  | _ => exact .inl rfl

/-- A reference of a valid record is a member that the record names. -/
theorem State.names_of_valid {s : State} {g : GroupId} {t : TrunkId}
    (h : s.referencesValid g (s.group g).config = true)
    (ht : (s.group g).config.primary = some t ∨ (s.group g).config.standby = some t) :
    (s.trunk t).group = g ∧ (s.group (s.trunk t).group).config.names t = true := by
  obtain ⟨hp, hj⟩ := State.referencesValid_iff.mp h
  have hg : (s.trunk t).group = g := ht.elim (hp t) fun h => (hj t h).1
  refine ⟨hg, ?_⟩
  rw [hg]
  simpa [GroupConfig.names] using ht

/-- A record stays valid while the trunks it names stay members. -/
theorem State.referencesValid_mono {s u : State} {g : GroupId} {c : GroupConfig} (h : s.referencesValid g c = true)
    (hmember : ∀ t, c.primary = some t ∨ c.standby = some t → (u.trunk t).group = (s.trunk t).group) :
    u.referencesValid g c = true := by
  obtain ⟨hp, hj⟩ := State.referencesValid_iff.mp h
  exact State.referencesValid_iff.mpr ⟨fun t ht => (hmember t (.inl ht)).trans (hp t ht),
    fun t ht => ⟨(hmember t (.inr ht)).trans (hj t ht).1, (hj t ht).2⟩⟩

/-- The law of following where no record changes, no reference leaves, no section loses its alignment, and no group comes to
follow a reference that is not ALIGNED. -/
theorem State.FollowLaw.mono {s u : State} (hs : s.FollowLaw)
    (hconfig : ∀ g, (u.group g).config = (s.group g).config)
    (hlocked : ∀ g, (u.group g).state = .locked → (s.group g).state = .locked ∨ s.primaryAligned g = true)
    (hstandby : ∀ g, (u.group g).state = .standby → (s.group g).state = .standby ∨ s.standbyAligned g = true)
    (hmember : ∀ t, (u.trunk t).group = (s.trunk t).group ∨ (s.group (s.trunk t).group).config.names t = false)
    (haligned : ∀ t, (s.trunk t).rx.state = .aligned → (u.trunk t).rx.state = .aligned) : u.FollowLaw := by
  intro g
  obtain ⟨hvalid, hprimary, hsecond⟩ := hs g
  rw [State.primaryAligned_iff, State.standbyAligned_iff, hconfig]
  refine ⟨State.referencesValid_mono hvalid fun t ht => (hmember t).resolve_right fun hn => ?_, fun h => ?_, fun h => ?_⟩
  · exact absurd (State.names_of_valid hvalid ht).2 (by simp [hn])
  · exact (State.primaryAligned_iff.mp ((hlocked g h).elim hprimary id)).mono haligned
  · exact (State.standbyAligned_iff.mp ((hstandby g h).elim hsecond id)).mono haligned

theorem GroupMove.follow {s : State} {g : GroupId} {u : Group} (h : GroupMove s g u) :
    (u.config = (s.group g).config ∧
        (u.state = .locked → (s.group g).state = .locked ∨ s.primaryAligned g = true) ∧
        (u.state = .standby → (s.group g).state = .standby ∨ s.standbyAligned g = true)) ∨
      (s.referencesValid g u.config = true ∧ u.state = .stopped) := by
  cases h with
  | count _ hconfig hstate => exact .inl ⟨hconfig, fun h => .inl (hstate ▸ h), fun h => .inl (hstate ▸ h)⟩
  | configure _ hstopped hvalid => exact .inr ⟨hvalid, hstopped⟩
  | boundary b =>
    rw [Group.recordBoundary_config, Group.recordBoundary_state]
    exact .inl ⟨rfl, .inl, .inl⟩
  | locked _ ha => exact .inl ⟨rfl, fun _ => .inr ha, fun h => nomatch h⟩
  | standby _ ha => exact .inl ⟨rfl, fun h => (nomatch h), fun _ => .inr ha⟩
  | holdover => exact .inl ⟨rfl, fun h => (nomatch h), fun h => nomatch h⟩
  | degraded => exact .inl ⟨rfl, fun h => (nomatch h), fun h => nomatch h⟩
  | _ => exact .inl ⟨rfl, .inl, .inl⟩

theorem keeps_followLaw {s u : State} (h : Move s u) (hs : s.FollowLaw) : u.FollowLaw := by
  refine h.tables_cases (P := State.FollowLaw) (fun u htrunks hgroups _ _ => ?quiet) (fun ks hks => ?trunks)
    (fun gs hgs g => ?groups) (fun _ _ => hs) (fun t rx _ hfree => ?leave)
    (fun t u hheld hstopped hconfig _ hstandby hlocked _ _ _ _ _ => ?start) (fun t => ?halt) (fun t f _ => ?reformat)
  case quiet =>
    have hg : ∀ g, u.group g = s.group g := fun g => by simp only [State.group, hgroups]
    have ht : ∀ t, u.trunk t = s.trunk t := fun t => by simp only [State.trunk, htrunks]
    exact hs.mono (fun g => by rw [hg]) (fun g h => .inl (hg g ▸ h)) (fun g h => .inl (hg g ▸ h))
      (fun t => .inl (by rw [ht])) fun t h => by rwa [ht]
  case trunks =>
    exact hs.mono (fun _ => rfl) (fun _ => .inl) (fun _ => .inl) (fun t => (hks t).member) fun t => (hks t).aligned
  case groups =>
    obtain ⟨hvalid, hprimary, hsecond⟩ := hs g
    obtain ⟨hconfig, hlocked, hstandby⟩ | ⟨hvalid', hstopped⟩ := (hgs g).follow
    · rw [State.primaryAligned_iff, State.standbyAligned_iff]
      change s.referencesValid g gs[g].config = true ∧ (gs[g].state = _ → s.alignedReference gs[g].config.primary) ∧
        (gs[g].state = _ → s.alignedReference gs[g].config.standby)
      rw [hconfig]
      exact ⟨hvalid, fun h => State.primaryAligned_iff.mp ((hlocked h).elim hprimary id),
        fun h => State.standbyAligned_iff.mp ((hstandby h).elim hsecond id)⟩
    · exact ⟨hvalid', fun h => absurd (hstopped.symm.trans h) (by simp), fun h => absurd (hstopped.symm.trans h) (by simp)⟩
  case leave =>
    intro g
    obtain ⟨hvalid, hprimary, hsecond⟩ := hs g
    have hkept : ∀ k, (s.group (s.trunk k).group).follows k = true → (s.trunk k).rx.state = .aligned →
        ((s.leaveAlignment t rx).trunk k).rx.state = .aligned := by
      intro k hf ha
      rw [State.leaveAlignment_trunk]
      split
      next hk => subst hk; simp [hfree ha] at hf
      · exact ha
    rw [State.primaryAligned_iff, State.standbyAligned_iff, State.leaveAlignment_group]
    refine ⟨State.referencesValid_mono hvalid fun k _ => by simp, fun h => ?_, fun h => ?_⟩
    · obtain ⟨k, hk, ha⟩ := State.primaryAligned_iff.mp (hprimary h)
      have hg := (State.names_of_valid hvalid (.inl hk)).1
      exact ⟨k, hk, hkept k (Group.follows_iff.mpr (.inl (hg ▸ ⟨h, hk⟩))) ha⟩
    · obtain ⟨k, hk, ha⟩ := State.standbyAligned_iff.mp (hsecond h)
      have hg := (State.names_of_valid hvalid (.inr hk)).1
      exact ⟨k, hk, hkept k (Group.follows_iff.mpr (.inr (hg ▸ ⟨h, hk⟩))) ha⟩
  case start =>
    refine hs.mono (fun g => ?_) (fun g h => ?_) (fun g h => ?_) (fun t' => .inl ?_) fun t' ha => ?_
    · rw [State.group_modifyGroup]
      split
      next hg => rw [hconfig, hg]
      · rfl
    · rw [State.group_modifyGroup] at h
      split at h
      next hg => exact .inr (hg ▸ hlocked h)
      · exact .inl h
    · rw [State.group_modifyGroup] at h
      split at h
      · exact absurd h hstandby
      · exact .inl h
    · rw [State.modifyGroup_trunk, State.trunk_modifyTrunk]
      split
      next h => rw [h]
      · rfl
    · rw [State.modifyGroup_trunk, State.trunk_modifyTrunk]
      split
      next h => rwa [h] at ha
      · exact ha
  case halt =>
    refine hs.mono (fun g => ?_) (fun g h => ?_) (fun g h => ?_) (fun t' => .inl ?_) fun t' ha => ?_
    · rw [State.haltTransmit_group]
      split <;> rfl
    · rw [State.haltTransmit_group] at h
      split at h
      · exact absurd h (by simp [Group.halted])
      · exact .inl h
    · rw [State.haltTransmit_group] at h
      split at h
      · exact absurd h (by simp [Group.halted])
      · exact .inl h
    · rw [State.haltTransmit_trunk]
      split
      next h => rw [h]
      · rfl
    · rw [State.haltTransmit_trunk]
      split
      next h => rwa [h] at ha
      · exact ha
  case reformat =>
    refine hs.mono (fun _ => rfl) (fun _ => .inl) (fun _ => .inl) (fun t' => .inl ?_) fun t' ha => ?_
    · rw [State.reformat_trunk]
      split
      next h => rw [h]
      · rfl
    · rw [State.reformat_trunk]
      split
      next h => rwa [h] at ha
      · exact ha

theorem State.resetBy_followLaw (s : State) (kind : ResetKind) : (s.resetBy kind).FollowLaw := by
  intro g
  rw [State.group_resetBy]
  exact ⟨rfl, fun h => (nomatch h), fun h => nomatch h⟩

theorem kept_followLaw : Kept State.FollowLaw where
  move _ _ := keeps_followLaw
  link _ _ h := h
  pending _ _ h := h
  reset s kind _ := s.resetBy_followLaw kind

/-! ### The law of the clock -/

/-- The part of the law of the clock that is about a group's own record. -/
abbrev Group.Clocked (now : Time) (u : Group) : Prop :=
  u.lastLocked ≠ some 0#16 ∧ (∀ b ∈ u.previous, b.time ≤ now) ∧ ∀ b ∈ u.due, b.time ≤ now

theorem Group.recordBoundary_clocked {u : Group} {now : Time} (hu : u.Clocked now) {b : Boundary} (hb : b.time ≤ now) :
    (u.recordBoundary b).Clocked now := by
  have hprevious : (u.recordBoundary b).previous = some b := by
    unfold Group.recordBoundary
    split <;> rfl
  refine ⟨?_, by simpa [hprevious] using hb, by simp⟩
  unfold Group.recordBoundary
  split
  · exact hu.1
  · dsimp only
    split
    next h => exact fun h0 => by simp [Option.some.inj h0] at h
    · exact hu.1

theorem GroupMove.clocked {s : State} {g : GroupId} {u : Group} (h : GroupMove s g u) (hs : s.ClockLaw) :
    u.Clocked s.now := by
  have hg : (s.group g).Clocked s.now := hs g
  cases h with
  | count _ _ _ _ _ hdue hprevious hlocked => exact ⟨hlocked ▸ hg.1, hprevious ▸ hg.2.1, hdue ▸ hg.2.2⟩
  | due => exact ⟨hg.1, hg.2.1, fun b hb => by cases hb; exact le_rfl⟩
  | boundary b hb => exact Group.recordBoundary_clocked hg (hb hs)
  | _ => exact hg

theorem keeps_clockLaw {s u : State} (h : Move s u) (hs : s.ClockLaw) : u.ClockLaw := by
  refine h.tables_cases (P := State.ClockLaw) (fun u _ hgroups _ hnow g => ?quiet) (fun _ _ => hs)
    (fun gs hgs g => (hgs g).clocked hs) (fun _ _ => hs) (fun _ _ _ _ => hs)
    (fun t u _ _ _ _ _ _ _ _ hdue hprevious hlast g => ?start) (fun t g => ?halt) (fun _ _ _ => hs)
  case quiet =>
    have hg : u.group g = s.group g := by simp only [State.group, hgroups]
    obtain ⟨hlast, hprevious, hdue⟩ := hs g
    rw [hg]
    exact ⟨hlast, fun b hb => (hprevious b hb).trans hnow, fun b hb => (hdue b hb).trans hnow⟩
  case start =>
    rw [State.group_modifyGroup]
    split
    · simp [hdue, hprevious, hlast]
    · exact hs g
  case halt =>
    rw [State.haltTransmit_group, (s.haltTransmit_fields t).2.2.2.2.2.2.2.2.2.2.1]
    split
    · exact ⟨(hs g).1, (hs g).2.1, fun b hb => nomatch hb⟩
    · exact hs g

theorem State.resetBy_clockLaw (s : State) (kind : ResetKind) : (s.resetBy kind).ClockLaw := by
  intro g
  rw [State.group_resetBy]
  exact ⟨fun h => (nomatch h), fun b h => (nomatch h), fun b h => nomatch h⟩

theorem kept_clockLaw : Kept State.ClockLaw where
  move _ _ := keeps_clockLaw
  link _ _ h := h
  pending _ _ h := h
  reset s kind _ := s.resetBy_clockLaw kind

/-- Settles O56: each of the three laws is kept by every move. -/
theorem stepKeepsTimingLaws : Obligations.StepKeepsTimingLaws :=
  ⟨fun _ _ hs h => kept_timingLaw.step h hs, fun _ _ hs h => kept_followLaw.step h hs,
    fun _ _ hs h => kept_clockLaw.step h hs⟩

/-! ### The law of marks -/

theorem Pair.select_mark {k : Trunk} {p : Pair} (h : (p.select k).mark.isSome = true) :
    p.mark.isSome = true ∨ k.rx.state = .aligned := by
  unfold Pair.select at h
  split at h
  next ha => exact .inr ha
  · exact .inl h

theorem State.timed.running {s : State} (hs : s.TimingLaw) {g : GroupId} (h : s.timed g) : (s.group g).state ≠ .stopped := by
  obtain ⟨hgen, -, hdue, -⟩ := hs g
  intro hstopped
  rw [hstopped] at hgen hdue
  obtain h | h := h
  · exact absurd (hdue h) (by decide)
  · rw [hgen] at h
    exact absurd h (by decide)

theorem keeps_markLaw {s u : State} (h : Move s u) (htiming : s.TimingLaw) (hs : s.MarkLaw) : u.MarkLaw := by
  refine h.tables_cases (P := State.MarkLaw) (fun u htrunks hgroups hpairs _ => ?quiet)
    (fun ks hks g t hm => ⟨(hks t).aligned (hs g t hm).1, (hs g t hm).2⟩)
    (fun gs hgs g t hm => ⟨(hs g t hm).1, (not_congr (hgs g).stopped_iff).mpr (hs g t hm).2⟩) (fun f hf g t hm => ?pairs)
    (fun t rx _ _ g t' hm => ?leave) (fun t u _ _ _ hrun _ _ _ _ _ _ _ g t' hm => ?start) (fun t g t' hm => ?halt)
    (fun t f _ g t' hm => ?reformat)
  case quiet =>
    intro g t
    simp only [State.pair, State.trunk, State.group, htrunks, hgroups, hpairs]
    exact hs g t
  case pairs =>
    rw [State.pair_mapPairs] at hm
    have hmove := hf g t
    generalize f g t (s.pair g t) = p at hm hmove
    cases hmove with
    | count _ hmark => exact hs g t (hmark ▸ hm)
    | select hdue => exact (Pair.select_mark hm).elim (hs g t) fun ha => ⟨ha, State.timed.running htiming hdue⟩
  case leave =>
    rw [State.leaveAlignment_pair] at hm
    rw [State.leaveAlignment_trunk, State.leaveAlignment_group]
    split at hm
    · exact nomatch hm
    next hne => rw [if_neg hne]; exact hs g t' hm
  case start =>
    rw [State.modifyGroup_pair, State.modifyTrunk_pair] at hm
    rw [State.modifyGroup_trunk, State.trunk_modifyTrunk, State.group_modifyGroup]
    refine ⟨?_, ?_⟩
    · split
      next h => exact h ▸ (hs g t' hm).1
      · exact (hs g t' hm).1
    · split
      · exact hrun
      · exact (hs g t' hm).2
  case halt =>
    rw [State.haltTransmit_pair] at hm
    rw [State.haltTransmit_trunk, State.haltTransmit_group]
    split at hm
    · exact nomatch hm
    next hne =>
      rw [if_neg hne]
      refine ⟨?_, (hs g t' hm).2⟩
      split
      next h => exact h ▸ (hs g t' hm).1
      · exact (hs g t' hm).1
  case reformat =>
    rw [State.reformat_trunk]
    refine ⟨?_, (hs g t' hm).2⟩
    split
    next h => exact h ▸ (hs g t' hm).1
    · exact (hs g t' hm).1

theorem State.resetBy_markLaw (s : State) (kind : ResetKind) : (s.resetBy kind).MarkLaw := by
  intro g t h
  rw [State.pair_resetBy] at h
  exact nomatch h

theorem kept_markLaw : Kept fun s => s.TimingLaw ∧ s.MarkLaw where
  move _ _ h hs := ⟨keeps_timingLaw h hs.1, keeps_markLaw h hs.1 hs.2⟩
  link _ _ h := h
  pending _ _ h := h
  reset s kind _ := ⟨s.resetBy_timingLaw kind, s.resetBy_markLaw kind⟩

/-- Settles O57: a mark is set by a selection alone, from an ALIGNED source in a group with a boundary due. -/
theorem stepKeepsMarksUnset : Obligations.StepKeepsMarksUnset :=
  fun _ _ htiming hs h => (kept_markLaw.step h ⟨htiming, hs⟩).2

end Sys2Proof.Machine
end

section
/-! LAWS. The capacities, and the laws of the attention flags and of the outgoing queue. -/

namespace Sys2Proof.Machine

/-! ### Capacities -/

/-- A trunk's part of the law of capacities. -/
abbrev Trunk.Bounded (k : Trunk) : Prop := k.store.frames.length ≤ 3 ∧ k.rx.missCount ≤ 2

theorem FrameStore.push_frames_length {store : FrameStore} (h : store.frames.length ≤ 3) (values : List Value) :
    (store.push values).frames.length ≤ 3 := by
  simp only [FrameStore.push, List.length_append, List.length_singleton]
  by_cases hroom : store.frames.length < Config.storeCapacity
  · rw [if_pos hroom]
    exact hroom
  · rw [if_neg hroom, List.length_drop]
    omega

theorem TrunkMove.bounded {s : State} {t : TrunkId} {k : Trunk} (h : TrunkMove s t k) (hs : (s.trunk t).Bounded) :
    k.Bounded := by
  obtain ⟨hframes, hmiss⟩ := hs
  cases h with
  | receive _ _ hle => exact ⟨hframes, hle.trans hmiss⟩
  | align _ _ _ hzero => exact ⟨hframes, by simp [hzero]⟩
  | frame n _ _ hn => exact ⟨FrameStore.push_frames_length hframes _, hn⟩
  | _ => exact ⟨hframes, hmiss⟩

/-- The law of capacities, part by part. -/
theorem State.Bounded.of {s u : State} (hs : s.Bounded) (htap : u.tap = s.tap) (hplayout : u.playout = s.playout)
    (hlog : u.log = s.log) (hchanges : u.changes.length ≤ 64) (htrunks : ∀ t, (u.trunk t).Bounded) : u.Bounded := by
  obtain ⟨hs1, hs2, hs3, -, -⟩ := hs
  exact ⟨htap ▸ hs1, hplayout ▸ hs2, hlog ▸ hs3, hchanges, htrunks⟩

theorem State.stageEntry_length {d : FullSlot} {e : MapEntry} {s : State} (h : s.changes.length ≤ 64) :
    (stageEntry d e s).2.changes.length ≤ 64 := by
  obtain ⟨i, -, he⟩ | ⟨-, hroom, he⟩ | ⟨-, -, he⟩ := stageEntry_eq d e s <;> rw [he]
  · simpa [okWith] using h
  · simpa [okWith] using hroom
  · exact h

theorem keeps_bounded {s u : State} (h : Move s u) (hs : s.Bounded) : u.Bounded := by
  have ⟨htap, hplayout, hlog, hchanges, htrunks⟩ := hs
  cases h with
  | outside u heq _ htap' hplayout' hlog' =>
    have hc : u.changes = s.changes := by rw [heq]
    have ht : ∀ t, u.trunk t = s.trunk t := fun t => by rw [heq]; rfl
    exact ⟨htap' htap, hplayout' hplayout, hlog' hlog, hc ▸ hchanges, fun t => ht t ▸ htrunks t⟩
  | trunks ks hks => exact hs.of rfl rfl rfl hchanges fun t => (hks t).bounded (htrunks t)
  | groups => exact hs
  | pairs => exact hs
  | leaveAlignment t rx _ hmiss =>
    refine hs.of rfl rfl rfl hchanges fun t' => ?_
    rw [State.leaveAlignment_trunk]
    split
    · exact ⟨Nat.zero_le _, by simp [hmiss]⟩
    · exact htrunks t'
  | start t u =>
    refine hs.of rfl rfl rfl hchanges fun t' => ?_
    rw [State.modifyGroup_trunk, State.trunk_modifyTrunk]
    split
    · exact htrunks t
    · exact htrunks t'
  | halt t =>
    refine hs.of (by simp) (by simp) (by simp) (by simpa using hchanges) fun t' => ?_
    rw [State.haltTransmit_trunk]
    split
    · exact htrunks t
    · exact htrunks t'
  | reformat t f =>
    refine hs.of rfl rfl rfl hchanges fun t' => ?_
    rw [State.reformat_trunk]
    split
    · exact htrunks t
    · exact htrunks t'
  | clearForced t =>
    obtain ⟨m, h⟩ := s.clearForced_state t
    rw [h]
    exact hs
  | stage d e =>
    have hlen := State.stageEntry_length (d := d) (e := e) hchanges
    obtain ⟨c, h⟩ := stageEntry_state d e s
    rw [h] at hlen ⊢
    exact hs.of rfl rfl rfl hlen htrunks
  | withdraw d => exact hs.of rfl rfl rfl ((List.length_eraseP_le).trans hchanges) htrunks
  | discard => exact hs.of rfl rfl rfl ((List.length_filter_le _ _).trans hchanges) htrunks
  | apply p =>
    refine hs.of (by simp) (by simp) (by simp) ?_ fun t => by
      rw [State.applyInFlight_trunk]
      exact htrunks t
    rw [State.applyInFlight_changes]
    exact (List.length_filter_le _ _).trans hchanges
  | commit =>
    refine hs.of (by simp [State.putInFlight]) (by simp [State.putInFlight]) (by simp [State.putInFlight]) ?_ fun t => by
      rw [State.applyInFlight_trunk]
      exact htrunks t
    rw [State.applyInFlight_changes]
    refine (List.length_filter_le _ _).trans ?_
    simpa [State.putInFlight] using hchanges
  | finish =>
    refine hs.of (by simp) (by simp) (by simp) (by simpa using hchanges) fun t => ?_
    rw [State.finish_trunk]
    exact htrunks t

theorem State.resetBy_bounded {s : State} (kind : ResetKind) (hlog : s.log.records.length ≤ 16) :
    (s.resetBy kind).Bounded := by
  refine ⟨Nat.zero_le _, Nat.zero_le _, ?_, Nat.zero_le _, fun t => ?_⟩
  · change (if kind = .power then FaultLog.empty else s.log).records.length ≤ 16
    split
    · exact Nat.zero_le _
    · exact hlog
  · rw [State.trunk_resetBy]
    exact ⟨Nat.zero_le _, Nat.zero_le _⟩

theorem kept_bounded : Kept State.Bounded where
  move _ _ := keeps_bounded
  link _ _ h := h
  pending _ _ h := h
  reset _ kind h := State.resetBy_bounded kind h.2.2.1

/-- Settles O54: each part that grows is bounded by the move that makes it grow. -/
theorem stepKeepsCapacities : Obligations.StepKeepsCapacities := fun _ _ hs h => kept_bounded.step h hs

/-! ### Flags and their sets -/

/-- The application of in-flight entries raises at most BATCH_DONE (R114). -/
theorem State.applyInFlight_attention (p : TrunkId → Bool) (s : State) :
    (s.applyInFlight p).attention = s.attention ∨ (s.applyInFlight p).attention = s.attention.raise .batchDone := by
  unfold State.applyInFlight
  dsimp only
  split
  · exact .inl rfl
  · split
    · exact .inl rfl
    · split
      · exact .inr rfl
      · exact .inl rfl

theorem State.applyInFlight_attentionMove (p : TrunkId → Bool) (s : State) :
    AttentionMove s.attention (s.applyInFlight p).attention := by
  obtain h | h := s.applyInFlight_attention p <;> rw [h]
  · exact .same
  · exact .raise _

/-- A move does with the attention unit what a raising, ACK or ATTENTION MASK does, or ends an event. -/
theorem Move.attention {s u : State} (h : Move s u) : AttentionMove s.attention u.attention ∨ u = s.finish := by
  cases h with
  | outside _ _ _ _ _ _ hattention => exact .inl hattention
  | trunks => exact .inl .same
  | groups => exact .inl .same
  | pairs => exact .inl .same
  | leaveAlignment => exact .inl .same
  | start => exact .inl .same
  | halt t => exact .inl (by simpa using .same)
  | reformat => exact .inl .same
  | clearForced t => exact .inl (by simpa using .same)
  | stage d e =>
    obtain ⟨c, h⟩ := stageEntry_state d e s
    rw [h]
    exact .inl .same
  | withdraw => exact .inl .same
  | discard => exact .inl .same
  | apply p => exact .inl (s.applyInFlight_attentionMove p)
  | commit => exact .inl (s.putInFlight.applyInFlight_attentionMove _)
  | finish => exact .inr rfl

/-- Each source with a set has its flag set exactly when the set is not empty (R142). -/
abbrev Attention.Matches (a : Attention) : Prop :=
  a.flags.getLsbD 0 = (a.rxLoss != 0#8) ∧ a.flags.getLsbD 1 = (a.refLost != 0#4) ∧
    a.flags.getLsbD 2 = (a.refChange != 0#4) ∧ a.flags.getLsbD 3 = (a.degraded != 0#4) ∧
    a.flags.getLsbD 4 = (a.slip != 0#4) ∧ a.flags.getLsbD 5 = (a.longFrame != 0#4)

theorem trunkBit_or_ne (m : BitVec 8) (t : TrunkId) : (m ||| trunkBit t != 0#8) = true := by
  have h : trunkBit t ≠ 0#8 := by revert t; decide
  simp [BitVec.or_eq_zero_iff, h]

theorem groupBit_or_ne (m : BitVec 4) (g : GroupId) : (m ||| groupBit g != 0#4) = true := by
  have h : groupBit g ≠ 0#4 := by revert g; decide
  simp [BitVec.or_eq_zero_iff, h]

theorem sourceBit_getLsbD (n m : Fin 12) : (sourceBit n).getLsbD m.val = decide (m = n) := by revert n m; decide

theorem Attention.raise_flags (a : Attention) (r : Raising) : (a.raise r).flags = a.flags ||| sourceBit r.source := by
  cases r <;> rfl

/-- The flag of the source raised is set, every other flag stays (R143). -/
theorem Attention.raise_getLsbD (a : Attention) (r : Raising) (m : Fin 12) :
    (a.raise r).flags.getLsbD m.val = (a.flags.getLsbD m.val || decide (m = r.source)) := by
  rw [Attention.raise_flags, BitVec.getLsbD_or, sourceBit_getLsbD]

/-- The set of the source raised is not empty, every other set is as it was. -/
theorem Attention.raise_sets (a : Attention) (r : Raising) :
    ((a.raise r).rxLoss != 0#8) = (a.rxLoss != 0#8 || decide (0 = r.source)) ∧
      ((a.raise r).refLost != 0#4) = (a.refLost != 0#4 || decide (1 = r.source)) ∧
      ((a.raise r).refChange != 0#4) = (a.refChange != 0#4 || decide (2 = r.source)) ∧
      ((a.raise r).degraded != 0#4) = (a.degraded != 0#4 || decide (3 = r.source)) ∧
      ((a.raise r).slip != 0#4) = (a.slip != 0#4 || decide (4 = r.source)) ∧
      ((a.raise r).longFrame != 0#4) = (a.longFrame != 0#4 || decide (5 = r.source)) := by
  cases r <;> simp [Attention.raise, Attention.record, Raising.source, trunkBit_or_ne, groupBit_or_ne]

theorem Attention.raise_matches {a : Attention} (h : a.Matches) (r : Raising) : (a.raise r).Matches := by
  obtain ⟨h0, h1, h2, h3, h4, h5⟩ := h
  have hbit := a.raise_getLsbD r
  obtain ⟨hs0, hs1, hs2, hs3, hs4, hs5⟩ := a.raise_sets r
  exact ⟨(hbit 0).trans (hs0 ▸ h0 ▸ rfl), (hbit 1).trans (hs1 ▸ h1 ▸ rfl), (hbit 2).trans (hs2 ▸ h2 ▸ rfl),
    (hbit 3).trans (hs3 ▸ h3 ▸ rfl), (hbit 4).trans (hs4 ▸ h4 ▸ rfl), (hbit 5).trans (hs5 ▸ h5 ▸ rfl)⟩

theorem Attention.clear_matches {a : Attention} (h : a.Matches) (sources : BitVec 12) : (a.clear sources).Matches := by
  have hbit : ∀ n : Fin 12, (a.clear sources).flags.getLsbD n.val = (a.flags.getLsbD n.val && !sources.getLsbD n.val) := by
    intro n
    simp [Attention.clear]
  have hset : ∀ {w : Nat} (flag named : Bool) (set : BitVec w), flag = (set != 0#w) →
      (flag && !named) = ((if named = true then 0#w else set) != 0#w) := by
    rintro w _ named set rfl
    cases named <;> simp
  obtain ⟨h0, h1, h2, h3, h4, h5⟩ := h
  exact ⟨(hbit 0).trans (hset _ _ _ h0), (hbit 1).trans (hset _ _ _ h1), (hbit 2).trans (hset _ _ _ h2),
    (hbit 3).trans (hset _ _ _ h3), (hbit 4).trans (hset _ _ _ h4), (hbit 5).trans (hset _ _ _ h5)⟩

theorem AttentionMove.matches {a b : Attention} (h : AttentionMove a b) (ha : a.Matches) : b.Matches := by
  cases h with
  | same => exact ha
  | raise r => exact Attention.raise_matches ha r
  | clear sources => exact Attention.clear_matches ha sources
  | setMask => exact ha

theorem keeps_flagsMatchSets {s u : State} (h : Move s u) (hs : s.FlagsMatchSets) : u.FlagsMatchSets := by
  obtain h | rfl := h.attention
  · exact h.matches hs
  · obtain ⟨out, w, h⟩ := s.finish_eq
    rw [h]
    exact hs

theorem State.resetBy_flagsMatchSets (s : State) (kind : ResetKind) : (s.resetBy kind).FlagsMatchSets :=
  show Attention.reset.Matches by decide

theorem kept_flagsMatchSets : Kept State.FlagsMatchSets where
  move _ _ := keeps_flagsMatchSets
  link _ _ h := h
  pending _ _ h := h
  reset s kind _ := s.resetBy_flagsMatchSets kind

/-! ### The outgoing queue -/

/-- What the outgoing queue keeps within an event: at most one reply waits, and at most one notice, and that one asked for. -/
def State.OutgoingWeak (s : State) : Prop :=
  s.link.outgoing.tail.countP OutMessage.isReply ≤ 1 ∧
    s.link.outgoing.countP OutMessage.isWaitingNotice ≤ if s.attention.noticeWaiting then 1 else 0

theorem State.OutgoingLaw.weak {s : State} (h : s.OutgoingLaw) : s.OutgoingWeak := ⟨h.1, h.2.2.le⟩

theorem AttentionMove.noticeWaiting {a b : Attention} (h : AttentionMove a b) (ha : a.noticeWaiting = true) :
    b.noticeWaiting = true := by
  cases h with
  | same => exact ha
  | raise r => simp [Attention.raise, ha]
  | clear => exact ha
  | setMask => simp [Attention.setMask, ha]

/-- The queue stays and a notice asked for stays asked for. -/
theorem State.OutgoingWeak.of {s u : State} (hs : s.OutgoingWeak) (hout : u.link.outgoing = s.link.outgoing)
    (hwait : s.attention.noticeWaiting = true → u.attention.noticeWaiting = true) : u.OutgoingWeak := by
  obtain ⟨hreply, hnotice⟩ := hs
  refine ⟨hout ▸ hreply, ?_⟩
  rw [hout]
  refine hnotice.trans ?_
  cases hw : s.attention.noticeWaiting with
  | false => exact Nat.zero_le _
  | true => rw [hwait hw]

/-- A waiting notice is queued behind everything, where none waits in the queue. -/
theorem State.queueNotice_law {s : State} (h : s.OutgoingWeak) :
    s.queueNotice.link.outgoing.tail.countP OutMessage.isReply ≤ 1 ∧
      s.queueNotice.link.outgoing.countP OutMessage.isWaitingNotice =
        if s.queueNotice.attention.noticeWaiting then 1 else 0 := by
  obtain ⟨hreply, hnotice⟩ := h
  unfold State.queueNotice
  split
  next hask =>
    rw [Bool.and_eq_true, Bool.not_eq_true', List.any_eq_false] at hask
    obtain ⟨hw, hnone⟩ := hask
    have hzero : s.link.outgoing.countP OutMessage.isWaitingNotice = 0 := List.countP_eq_zero.mpr hnone
    refine ⟨?_, ?_⟩
    · cases hout : s.link.outgoing with
      | nil => simp [State.enqueue, hout]
      | cons m rest => simpa [State.enqueue, hout, OutMessage.isReply] using hreply
    · simp [State.enqueue, hw, hzero, OutMessage.isWaitingNotice]
  next hask =>
    refine ⟨hreply, ?_⟩
    cases hw : s.attention.noticeWaiting with
    | false => simpa [hw] using hnotice
    | true =>
      rw [hw] at hnotice hask
      refine le_antisymm hnotice (List.countP_pos_iff.mpr ?_)
      simpa using hask

/-- The end of an event brings the queue in order. -/
theorem State.finish_outgoingLaw {s : State} (h : s.OutgoingWeak) : s.finish.OutgoingLaw := by
  obtain ⟨hreply, hnotice⟩ := State.queueNotice_law h
  unfold State.finish State.beginSending
  generalize s.queueNotice = u at hreply hnotice ⊢
  split
  next rest hout =>
    rw [hout] at hreply hnotice
    refine ⟨hreply, rfl, ?_⟩
    simp only [List.countP_cons, OutMessage.isWaitingNotice, if_true] at hnotice ⊢
    cases hw : u.attention.noticeWaiting <;> simp [hw] at hnotice ⊢
    exact hnotice
  next hhead =>
    refine ⟨hreply, ?_, hnotice⟩
    cases hout : u.link.outgoing with
    | nil => rfl
    | cons m rest =>
      cases m with
      | reply => rfl
      | ready => rfl
      | attention content =>
        cases content with
        | none => exact absurd hout (hhead rest)
        | some r => rfl

theorem keeps_outgoingWeak {s u : State} (h : Move s u) (hs : s.OutgoingWeak) : u.OutgoingWeak := by
  obtain hout | rfl := h.outgoing
  · obtain hmove | rfl := h.attention
    · exact hs.of hout hmove.noticeWaiting
    · exact (State.finish_outgoingLaw hs).weak
  · exact (State.finish_outgoingLaw hs).weak

/-- Start-up queues READY, which is neither a reply nor a notice. -/
theorem State.startUpAfter_outgoingWeak {s : State} (hs : s.OutgoingWeak) (kind : ResetKind) (strap : Bool) :
    (s.startUpAfter kind strap).OutgoingWeak := by
  refine State.Moves.keeps (fun _ _ => keeps_outgoingWeak) (State.moves_writeRecord _ _) ?_
  obtain ⟨hreply, hnotice⟩ := hs
  refine ⟨?_, ?_⟩
  · cases hout : s.link.outgoing with
    | nil => simp [State.enqueue, hout]
    | cons m rest => simpa [State.enqueue, hout, OutMessage.isReply] using hreply
  · refine (le_of_eq ?_).trans hnotice
    simp [State.enqueue, OutMessage.isWaitingNotice]

theorem Event.outgoingLaw {s t : State} (h : Event s t) (hs : s.OutgoingLaw) : t.OutgoingLaw := by
  have hweak : ∀ {u}, s.Moves u → u.OutgoingWeak := fun h => h.keeps (fun _ _ => keeps_outgoingWeak) hs.weak
  have hreset : ∀ (u : State) (kind : ResetKind), (u.resetBy kind).OutgoingLaw := fun _ _ => ⟨Nat.zero_le _, rfl, rfl⟩
  cases h with
  | idle => exact hs
  | quiet u h => exact State.finish_outgoingLaw (hweak h)
  | answered u code payload h hwait =>
    refine State.finish_outgoingLaw ?_
    obtain ⟨-, hnotice⟩ := hweak h
    refine ⟨?_, by simpa [OutMessage.isWaitingNotice] using hnotice⟩
    have hnone : u.link.outgoing.tail.countP OutMessage.isReply = 0 :=
      List.countP_eq_zero.mpr (by simpa [State.replyWaiting] using hwait)
    cases hout : u.link.outgoing with
    | nil => simp
    | cons m rest =>
      rw [hout, List.tail_cons] at hnone
      rw [List.cons_append, List.tail_cons, List.countP_append, hnone, Nat.zero_add]
      exact List.countP_le_length
  | sent u m link h hout =>
    refine State.finish_outgoingLaw ?_
    obtain ⟨hreply, hnotice⟩ := hweak h
    rw [hout] at hreply hnotice
    exact ⟨((List.tail_sublist _).countP_le).trans hreply, ((List.sublist_cons_self _ _).countP_le).trans hnotice⟩
  | reset kind => exact hreset s kind
  | startUp kind strap => exact State.finish_outgoingLaw (State.startUpAfter_outgoingWeak hs.weak kind strap)
  | restart u strap =>
    exact State.finish_outgoingLaw (State.startUpAfter_outgoingWeak (hreset u .command).weak .command strap)

/-- Settles O55: raisings keep flags and sets in step; within an event the queue keeps `OutgoingWeak`, and the end of the event
brings it in order. -/
theorem stepKeepsAttentionLaws : Obligations.StepKeepsAttentionLaws := by
  refine ⟨fun _ _ hs h => kept_flagsMatchSets.step h hs, fun s t hs h => ?_⟩
  obtain ⟨q, h⟩ := step_event h
  exact h.outgoingLaw hs

end Sys2Proof.Machine
end

section
/-! LAWS. The change list: what staging, withdrawal, commitment and application leave of the entries, and the laws
of the batch. -/

namespace Sys2Proof.Machine

/-! ### What staging does to the change list -/

/-- What the placing of a staged entry does: it replaces the staged entry of its destination, is appended, or does nothing. -/
theorem stageEntry_cases (d : FullSlot) (e : MapEntry) (s : State) :
    (∃ older c newer, s.changes = older ++ c :: newer ∧ c.stagedFor d = true ∧ (∀ x ∈ older, x.stagedFor d = false) ∧
        (stageEntry d e s).2 = { s with changes := older ++ { destination := d, entry := e, batch := none } :: newer }) ∨
      (s.changes.any (Change.stagedFor d) = false ∧
        (stageEntry d e s).2 = { s with changes := s.changes ++ [{ destination := d, entry := e, batch := none }] }) ∨
      (stageEntry d e s).2 = s := by
  obtain ⟨i, hi, h⟩ | ⟨hn, -, h⟩ | ⟨-, -, h⟩ := stageEntry_eq d e s
  · obtain ⟨hlt, hc, hfirst⟩ := List.findIdx?_eq_some_iff_getElem.mp hi
    refine .inl ⟨s.changes.take i, s.changes[i], s.changes.drop (i + 1), ?_, hc, fun x hx => ?_, ?_⟩
    · rw [List.cons_getElem_drop_succ, List.take_append_drop]
    · obtain ⟨j, hj, rfl⟩ := List.mem_take_iff_getElem.mp hx
      exact Bool.eq_false_iff.mpr (hfirst j (by omega))
    · rw [h, List.set_eq_take_append_cons_drop, if_pos hlt]
      rfl
  · exact .inr (.inl ⟨hn, by rw [h]; rfl⟩)
  · exact .inr (.inr (by rw [h]; rfl))

/-- What the withdrawal of a staged entry does: the first staged entry of its destination leaves the list. -/
theorem State.withdraw_cases {d : FullSlot} {s : State} (h : s.changes.any (Change.stagedFor d) = true) :
    ∃ older c newer, s.changes = older ++ c :: newer ∧ c.stagedFor d = true ∧ s.withdraw d = { s with changes := older ++ newer } := by
  obtain ⟨c, hc, hp⟩ := List.any_eq_true.mp h
  obtain ⟨c, older, newer, -, hc, hs, he⟩ := List.exists_of_eraseP hc hp
  exact ⟨older, c, newer, hs, hc, by rw [State.withdraw, he]⟩

theorem Change.inFlight_of_stagedFor {d : FullSlot} {c : Change} (h : c.stagedFor d = true) : c.inFlight = false := by
  simp [Change.inFlight, (Change.stagedFor_iff.mp h).2]

theorem Change.inFlightFor_of_stagedFor {d d' : FullSlot} {c : Change} (h : c.stagedFor d = true) :
    c.inFlightFor d' = false := by
  simp [Change.inFlightFor, (Change.stagedFor_iff.mp h).2]

theorem Change.stagedFor_eq_of_stagedFor {d d' : FullSlot} {c : Change} (h : c.stagedFor d = true) :
    c.stagedFor d' = decide (d = d') := by
  obtain ⟨rfl, hb⟩ := Change.stagedFor_iff.mp h
  simp [Change.stagedFor, hb, Bool.beq_eq_decide_eq]

theorem Change.stagedFor_new (d : FullSlot) (e : MapEntry) :
    Change.stagedFor d { destination := d, entry := e, batch := none } = true := by simp [Change.stagedFor]

/-- The counts of a change list in which one staged entry of a destination takes the place of another. -/
theorem countP_replace {q : Change → Bool} {older newer : List Change} {c c' : Change} (h : q c = q c') :
    (older ++ c' :: newer).countP q = (older ++ c :: newer).countP q := by
  simp only [List.countP_append, List.countP_cons, h]

/-! ### The application of in-flight entries -/

theorem State.inFlightCount_eq (p : TrunkId → Bool) (s : State) : s.inFlightCount p = (s.inFlightOn p).length := by
  rw [State.inFlightCount, List.countP_eq_length_filter]
  rfl

/-- The in-flight entries that stay and those that are applied make up all of them. -/
theorem countP_inFlight_filter (p : TrunkId → Bool) (cs : List Change) :
    (cs.filter fun c => !(c.inFlight && p c.destination.trunk)).countP Change.inFlight +
      cs.countP (fun c => c.inFlight && p c.destination.trunk) = cs.countP Change.inFlight := by
  induction cs with
  | nil => rfl
  | cons c cs ih =>
    cases hf : c.inFlight <;> cases hp : p c.destination.trunk <;> simp [hf, hp] at ih ⊢ <;> omega

/-- What an application leaves, where the batch counts its in-flight entries (R113, R114). -/
theorem State.applyInFlight_left {s : State} (h : s.BatchLaw) (p : TrunkId → Bool) : s.InFlightLeft p (s.applyInFlight p) := by
  refine ⟨s.applyInFlight_changes p, ?_⟩
  have hcount := s.inFlightCount_eq p
  have htotal := countP_inFlight_filter p s.changes
  have hle : s.inFlightCount p ≤ s.changes.countP Change.inFlight := by rw [← htotal]; exact Nat.le_add_left _ _
  unfold State.BatchLaw at h
  unfold State.applyInFlight
  cases hb : s.batch with
  | none =>
    rw [hb] at h
    have hempty : (s.inFlightOn p).isEmpty = true := by
      rw [List.isEmpty_iff_length_eq_zero, ← hcount]
      exact Nat.le_zero.mp (hle.trans h.le)
    simp only [if_pos hempty, hb]
    exact ⟨trivial, trivial, trivial⟩
  | some b =>
    rw [hb] at h
    obtain ⟨htotal', -, -⟩ := h
    dsimp only
    by_cases hempty : (s.inFlightOn p).isEmpty = true
    · rw [if_pos hempty, if_pos (by rw [hcount]; exact List.isEmpty_iff_length_eq_zero.mp hempty)]
      exact ⟨hb, rfl, rfl⟩
    · have hne : s.inFlightCount p ≠ 0 := by rw [hcount]; exact mt List.isEmpty_iff_length_eq_zero.mpr hempty
      rw [if_neg hempty, if_neg hne]
      by_cases hall : b.remaining ≤ (s.inFlightOn p).length
      · rw [if_pos hall, if_pos (by omega)]
        exact ⟨rfl, rfl, rfl⟩
      · rw [if_neg hall, if_neg (by omega), hcount]
        exact ⟨rfl, rfl, rfl⟩

theorem State.OneEntryEach.of_sublist {s u : State} (hs : s.OneEntryEach) (h : u.changes.Sublist s.changes) :
    u.OneEntryEach := fun d => ⟨h.countP_le.trans (hs d).1, h.countP_le.trans (hs d).2⟩

/-- Where each destination has one in-flight entry, the application gives it that entry (R113). -/
theorem State.applyInFlight_appliedEntry {s : State} (hs : s.OneEntryEach) (p : TrunkId → Bool) (d : FullSlot) :
    (s.applyInFlight p).entry d = if p d.trunk then s.appliedEntry d else s.entry d := by
  rw [State.applyInFlight_entry, State.appliedEntry]
  have hmem : ∀ c ∈ (s.inFlightOn p).reverse, c.destination = d → c ∈ s.changes ∧ c.inFlightFor d = true ∧ p d.trunk = true := by
    intro c hc hd
    obtain ⟨hc, hp⟩ := List.mem_filter.mp (List.mem_reverse.mp hc)
    rw [Bool.and_eq_true, hd] at hp
    exact ⟨hc, by simp [Change.inFlightFor, hp.1, hd], hp.2⟩
  split
  next c hfind =>
    have hd : c.destination = d := by simpa using List.find?_some hfind
    obtain ⟨hc, hf, hp⟩ := hmem c (List.mem_of_find?_eq_some hfind) hd
    rw [if_pos hp, find?_eq_some_of_countP_le_one hc hf (hs d).2]
  next hfind =>
    split
    next hp =>
      cases hf : s.changes.find? (Change.inFlightFor d) with
      | none => rfl
      | some c =>
        have hc := List.find?_some hf
        obtain ⟨hd, hb⟩ := Change.inFlightFor_iff.mp hc
        refine absurd ?_ (List.find?_eq_none.mp hfind c ?_)
        · simp [hd]
        · rw [List.mem_reverse]
          exact List.mem_filter.mpr ⟨List.mem_of_find?_eq_some hf, by simp [hd, hp, Option.isSome_iff_ne_none, hb]⟩
    · rfl

/-! ### The law of the batch -/

/-- A move by what it makes of the change list and the batch. -/
theorem Move.batch_cases {P : State → Prop} {s u : State} (h : Move s u)
    (quiet : ∀ u : State, u.changes = s.changes → u.batch = s.batch → P u)
    (stage : ∀ d e, P (stageEntry d e s).2) (withdraw : ∀ d, s.changes.any (Change.stagedFor d) = true → P (s.withdraw d))
    (discard : P { s with changes := s.changes.filter (·.batch.isSome) }) (apply : ∀ p, P (s.applyInFlight p))
    (commit : s.batch = none → s.stagedCount ≠ 0 → P (s.putInFlight.applyInFlight s.putInFlight.txHeld)) : P u := by
  cases h with
  | outside u heq => exact quiet u (by rw [heq]) (by rw [heq])
  | trunks => exact quiet _ rfl rfl
  | groups => exact quiet _ rfl rfl
  | pairs => exact quiet _ rfl rfl
  | leaveAlignment => exact quiet _ rfl rfl
  | start => exact quiet _ rfl rfl
  | halt t => exact quiet _ (by simp) (by simp)
  | reformat => exact quiet _ rfl rfl
  | clearForced t => exact quiet _ (by simp) (by simp)
  | stage d e => exact stage d e
  | withdraw d h => exact withdraw d h
  | discard => exact discard
  | apply p => exact apply p
  | commit hb hs => exact commit hb hs
  | finish => exact quiet _ (by simp) (by simp)

/-- The law of the batch sees the in-flight entries and the batch alone. -/
theorem State.BatchLaw.of {s u : State} (hs : s.BatchLaw)
    (hcount : u.changes.countP Change.inFlight = s.changes.countP Change.inFlight)
    (hmem : ∀ c ∈ u.changes, c.inFlight = true → c ∈ s.changes) (hbatch : u.batch = s.batch) : u.BatchLaw := by
  unfold State.BatchLaw at *
  rw [hbatch, hcount]
  cases hb : s.batch with
  | none => simpa only [hb] using hs
  | some b =>
    rw [hb] at hs
    obtain ⟨h1, h2, h3⟩ := hs
    exact ⟨h1, h2, fun c hc hf => h3 c (hmem c hc hf) hf⟩

theorem State.applyInFlight_batchLaw {s : State} (hs : s.BatchLaw) (p : TrunkId → Bool) : (s.applyInFlight p).BatchLaw := by
  obtain ⟨hchanges, hbatch⟩ := State.applyInFlight_left hs p
  have htotal := countP_inFlight_filter p s.changes
  rw [← hchanges] at htotal
  change _ + s.inFlightCount p = _ at htotal
  have hmem : ∀ c ∈ (s.applyInFlight p).changes, c ∈ s.changes := fun c hc => (List.mem_filter.mp (hchanges ▸ hc)).1
  unfold State.BatchLaw at *
  cases hb : s.batch with
  | none =>
    rw [hb] at hs hbatch
    rw [hbatch.1]
    dsimp only at hs ⊢
    omega
  | some b =>
    rw [hb] at hs hbatch
    obtain ⟨hremaining, hpos, hids⟩ := hs
    dsimp only at hbatch
    split at hbatch
    · rw [hbatch.1]
      exact ⟨by omega, hpos, fun c hc => hids c (hmem c hc)⟩
    · split at hbatch
      · rw [hbatch.1]
        dsimp only
        omega
      · rw [hbatch.1]
        refine ⟨?_, ?_, fun c hc => hids c (hmem c hc)⟩ <;> dsimp only <;> omega

/-- Without a batch every change entry is staged. -/
theorem State.BatchLaw.staged {s : State} (hs : s.BatchLaw) (hb : s.batch = none) : ∀ c ∈ s.changes, c.batch = none := by
  unfold State.BatchLaw at hs
  rw [hb] at hs
  intro c hc
  have hf := List.countP_eq_zero.mp hs c hc
  simpa [Change.inFlight] using hf

theorem State.stagedCount_eq_length {s : State} (h : ∀ c ∈ s.changes, c.batch = none) :
    s.stagedCount = s.changes.length :=
  List.countP_eq_length.mpr fun c hc => by simp [h c hc]

/-- Where every entry is staged, COMMIT puts all of them in flight. -/
theorem State.putInFlight_changes {s : State} (h : ∀ c ∈ s.changes, c.batch = none) :
    s.putInFlight.changes = s.changes.map fun c => { c with batch := some s.nextBatch } :=
  List.map_congr_left fun c hc => by simp [h c hc]

theorem State.putInFlight_batchLaw {s : State} (hs : ∀ c ∈ s.changes, c.batch = none) (hstaged : s.stagedCount ≠ 0) :
    s.putInFlight.BatchLaw := by
  have hall : ∀ c ∈ s.putInFlight.changes, c.batch = some s.nextBatch := by
    rw [State.putInFlight_changes hs]
    intro c hc
    obtain ⟨c', -, rfl⟩ := List.mem_map.mp hc
    rfl
  refine ⟨?_, Nat.one_le_iff_ne_zero.mpr hstaged, fun c hc _ => hall c hc⟩
  change s.putInFlight.changes.countP Change.inFlight = s.stagedCount
  rw [List.countP_eq_length.mpr fun c hc => by simp [Change.inFlight, hall c hc], State.putInFlight_changes hs,
    List.length_map, State.stagedCount_eq_length hs]

theorem State.putInFlight_oneEntryEach {s : State} (hs : ∀ c ∈ s.changes, c.batch = none) (hone : s.OneEntryEach) :
    s.putInFlight.OneEntryEach := by
  intro d
  rw [State.putInFlight_changes hs, List.countP_map, List.countP_map]
  refine ⟨by simp [Function.comp_def, Change.stagedFor], le_trans (List.countP_mono_left fun c hc h => ?_) (hone d).1⟩
  simpa [Change.stagedFor, Change.inFlightFor, hs c hc] using h

theorem keeps_batchLaw {s u : State} (h : Move s u) (hs : s.BatchLaw) : u.BatchLaw := by
  refine h.batch_cases (P := State.BatchLaw) (fun u hc hb => hs.of (by rw [hc]) (fun c h _ => hc ▸ h) hb)
    (fun d e => ?stage) (fun d hstaged => ?withdraw) ?discard (fun p => State.applyInFlight_batchLaw hs p)
    fun hb hstaged => ?commit
  case stage =>
    obtain ⟨older, c, newer, hc, hp, -, h⟩ | ⟨-, h⟩ | h := stageEntry_cases d e s <;> rw [h]
    · refine hs.of ?_ (fun c' hc' hf => ?_) rfl
      · rw [hc]
        exact countP_replace (Change.inFlight_of_stagedFor hp)
      · rw [hc]
        simp only [List.mem_append, List.mem_cons] at hc' ⊢
        obtain h | rfl | h := hc'
        · exact .inl h
        · exact absurd hf (by simp [Change.inFlight])
        · exact .inr (.inr h)
    · refine hs.of (by simp [Change.inFlight]) (fun c' hc' hf => ?_) rfl
      obtain h | h := List.mem_append.mp hc'
      · exact h
      · rw [List.mem_singleton.mp h] at hf
        exact absurd hf (by simp [Change.inFlight])
    · exact hs
  case withdraw =>
    obtain ⟨older, c, newer, hc, hp, h⟩ := State.withdraw_cases hstaged
    rw [h]
    refine hs.of ?_ (fun c' hc' _ => ?_) rfl
    · simp [hc, Change.inFlight_of_stagedFor hp]
    · rw [hc]
      exact List.mem_append.mpr ((List.mem_append.mp hc').imp_right (List.mem_cons_of_mem c))
  case discard =>
    refine hs.of ?_ (fun c hc _ => (List.mem_filter.mp hc).1) rfl
    rw [List.countP_filter]
    exact List.countP_congr fun c _ => by simp [Change.inFlight]
  case commit =>
    exact State.applyInFlight_batchLaw (State.putInFlight_batchLaw (hs.staged hb) hstaged) _

theorem State.applyInFlight_oneEntryEach {s : State} (hs : s.OneEntryEach) (p : TrunkId → Bool) :
    (s.applyInFlight p).OneEntryEach :=
  hs.of_sublist (by rw [State.applyInFlight_changes]; exact List.filter_sublist)

theorem keeps_oneEntryEach {s u : State} (h : Move s u) (hs : s.BatchLaw) (hone : s.OneEntryEach) : u.OneEntryEach := by
  refine h.batch_cases (P := State.OneEntryEach) (fun u hc _ => hone.of_sublist (by rw [hc]))
    (fun d e => ?stage) (fun d _ => hone.of_sublist List.eraseP_sublist) (hone.of_sublist List.filter_sublist)
    (fun p => State.applyInFlight_oneEntryEach hone p) fun hb hstaged => ?commit
  case stage =>
    obtain ⟨older, c, newer, hc, hp, -, h⟩ | ⟨hn, h⟩ | h := stageEntry_cases d e s <;> rw [h]
    · intro d'
      obtain ⟨h1, h2⟩ := hone d'
      rw [hc] at h1 h2
      have hnew := Change.stagedFor_new d e
      exact ⟨(countP_replace ((Change.stagedFor_eq_of_stagedFor hp).trans (Change.stagedFor_eq_of_stagedFor hnew).symm)).trans_le h1,
        (countP_replace ((Change.inFlightFor_of_stagedFor hp).trans (Change.inFlightFor_of_stagedFor hnew).symm)).trans_le h2⟩
    · intro d'
      obtain ⟨h1, h2⟩ := hone d'
      have hnew := Change.stagedFor_new d e
      simp only [List.countP_append, List.countP_singleton, Change.inFlightFor_of_stagedFor hnew,
        Change.stagedFor_eq_of_stagedFor hnew]
      refine ⟨?_, by simpa using h2⟩
      by_cases hd : d = d'
      · subst hd
        have hzero : s.changes.countP (Change.stagedFor d) = 0 :=
          List.countP_eq_zero.mpr (by simpa using hn)
        simp [hzero]
      · simpa [hd] using h1
    · exact hone
  case commit =>
    exact State.applyInFlight_oneEntryEach (State.putInFlight_oneEntryEach (hs.staged hb) hone) _

theorem State.resetBy_batchLaw (s : State) (kind : ResetKind) : (s.resetBy kind).BatchLaw ∧ (s.resetBy kind).OneEntryEach :=
  ⟨rfl, fun _ => ⟨Nat.zero_le _, Nat.zero_le _⟩⟩

theorem kept_batchLaw : Kept fun s => s.BatchLaw ∧ s.OneEntryEach where
  move _ _ h hs := ⟨keeps_batchLaw h hs.1, keeps_oneEntryEach h hs.1 hs.2⟩
  link _ _ h := h
  pending _ _ h := h
  reset s kind _ := s.resetBy_batchLaw kind

/-! ### In-flight entries on RUN trunks -/

theorem TrunkMove.running {s : State} {t : TrunkId} {k : Trunk} (h : TrunkMove s t k) (hrun : (s.trunk t).tx.state = .run) :
    k.tx.state = .run := by
  cases h with
  | run => rfl
  | _ => exact hrun

theorem State.FlightLaw.of {s u : State} (hs : s.FlightLaw) (hmem : ∀ c ∈ u.changes, c.inFlight = true → c ∈ s.changes)
    (hrun : ∀ t, (s.trunk t).tx.state = .run → (u.trunk t).tx.state = .run) : u.FlightLaw :=
  fun c hc hf => hrun _ (hs c (hmem c hc hf) hf)

theorem keeps_flightLaw {s u : State} (h : Move s u) (hs : s.FlightLaw) : u.FlightLaw := by
  cases h with
  | outside u heq =>
    refine hs.of (fun c hc _ => by rw [heq] at hc; exact hc) fun t ht => ?_
    rw [heq]
    exact ht
  | trunks ks hks => exact hs.of (fun _ hc _ => hc) fun t => (hks t).running
  | groups => exact hs
  | pairs => exact hs
  | leaveAlignment t rx =>
    refine hs.of (fun _ hc _ => hc) fun t' ht => ?_
    rw [State.leaveAlignment_trunk]
    split
    next h => rwa [h] at ht
    · exact ht
  | start t u =>
    refine hs.of (fun _ hc _ => hc) fun t' ht => ?_
    rw [State.modifyGroup_trunk, State.trunk_modifyTrunk]
    split
    · rfl
    · exact ht
  | halt t hflight =>
    intro c hc hf
    rw [(s.haltTransmit_fields t).2.1] at hc
    rw [State.haltTransmit_trunk, if_neg (hflight c hc hf)]
    exact hs c hc hf
  | reformat t f =>
    refine hs.of (fun _ hc _ => hc) fun t' ht => ?_
    rw [State.reformat_trunk]
    split
    next h => rwa [h] at ht
    · exact ht
  | clearForced t =>
    obtain ⟨m, h⟩ := s.clearForced_state t
    rw [h]
    exact hs
  | stage d e =>
    have hnew : ({ destination := d, entry := e, batch := none } : Change).inFlight = false := rfl
    obtain ⟨older, c, newer, hc, hp, -, h⟩ | ⟨hn, h⟩ | h := stageEntry_cases d e s <;> rw [h]
    · refine hs.of (fun c' hc' hf => ?_) fun _ => id
      rw [hc]
      simp only [List.mem_append, List.mem_cons] at hc' ⊢
      obtain h | rfl | h := hc'
      · exact .inl h
      · exact absurd hf (by simp [hnew])
      · exact .inr (.inr h)
    · refine hs.of (fun c' hc' hf => ?_) fun _ => id
      obtain h | h := List.mem_append.mp hc'
      · exact h
      · rw [List.mem_singleton.mp h] at hf
        exact absurd hf (by simp [hnew])
    · exact hs
  | withdraw d => exact hs.of (fun _ hc _ => List.mem_of_mem_eraseP hc) fun _ => id
  | discard => exact hs.of (fun _ hc _ => (List.mem_filter.mp hc).1) fun _ => id
  | apply p =>
    refine hs.of (fun c hc _ => ?_) fun t ht => by rwa [State.applyInFlight_trunk]
    rw [State.applyInFlight_changes] at hc
    exact (List.mem_filter.mp hc).1
  | commit =>
    intro c hc hf
    rw [State.applyInFlight_changes] at hc
    have hheld := (List.mem_filter.mp hc).2
    rw [show c.batch.isSome = true from hf, Bool.true_and, Bool.not_eq_true', State.txHeld, beq_eq_false_iff_ne] at hheld
    rw [State.applyInFlight_trunk]
    cases hrun : (s.putInFlight.trunk c.destination.trunk).tx.state with
    | run => rfl
    | held => exact absurd hrun hheld
  | finish => exact hs.of (fun c hc _ => by simpa using hc) fun t ht => by rwa [State.finish_trunk]

theorem State.resetBy_flightLaw (s : State) (kind : ResetKind) : (s.resetBy kind).FlightLaw :=
  fun _ hc => absurd hc List.not_mem_nil

theorem kept_flightLaw : Kept State.FlightLaw where
  move _ _ := keeps_flightLaw
  link _ _ h := h
  pending _ _ h := h
  reset s kind _ := s.resetBy_flightLaw kind

/-- Settles O58: COMMIT puts the staged entries in flight, and every application lowers the batch by what it applies. -/
theorem stepKeepsBatchLaws : Obligations.StepKeepsBatchLaws :=
  ⟨fun _ _ hs hone h => kept_batchLaw.step h ⟨hs, hone⟩, fun _ _ hs h => kept_flightLaw.step h hs⟩

end Sys2Proof.Machine
end

section
/-! LAWS. The projected map: what each move of the change list leaves of it, and the two laws of the map, one PLAY and
the fan-out limit. -/

namespace Sys2Proof.Machine

/-! ### The projected map in two layers -/

/-- Beneath the staged entries lies the map that the in-flight entries make (R93). -/
theorem State.projected_eq (s : State) (d : FullSlot) :
    s.projected d = ((s.changes.find? (Change.stagedFor d)).map Change.entry).getD (s.appliedEntry d) := by
  unfold State.projected State.projectedLayer State.appliedEntry
  cases s.changes.find? (Change.stagedFor d) with
  | some c => rfl
  | none => cases s.changes.find? (Change.inFlightFor d) <;> rfl

theorem State.appliedEntry_eq (s : State) (d : FullSlot) :
    s.appliedEntry d = ((s.changes.find? (Change.inFlightFor d)).map Change.entry).getD (s.entry d) := by
  unfold State.appliedEntry
  cases s.changes.find? (Change.inFlightFor d) <;> rfl

theorem State.appliedEntry_congr {s u : State} {d : FullSlot}
    (hfind : u.changes.find? (Change.inFlightFor d) = s.changes.find? (Change.inFlightFor d))
    (hentry : u.entry d = s.entry d) : u.appliedEntry d = s.appliedEntry d := by
  rw [State.appliedEntry_eq, State.appliedEntry_eq, hfind, hentry]

theorem State.projected_congr {s u : State} {d : FullSlot}
    (hfind : u.changes.find? (Change.stagedFor d) = s.changes.find? (Change.stagedFor d))
    (happlied : u.appliedEntry d = s.appliedEntry d) : u.projected d = s.projected d := by
  rw [State.projected_eq, State.projected_eq, hfind, happlied]

/-- Without a staged entry for it a destination shows what is applied. -/
theorem State.projected_of_unstaged {s : State} {d : FullSlot} (h : s.changes.find? (Change.stagedFor d) = none) :
    s.projected d = s.appliedEntry d := by rw [State.projected_eq, h, Option.map_none, Option.getD_none]

/-- A search passes over an element that does not satisfy it. -/
theorem find?_append_cons_of_not {α : Type} {q : α → Bool} {older newer : List α} {c : α} (h : q c = false) :
    (older ++ c :: newer).find? q = (older ++ newer).find? q := by simp [List.find?_append, h]

/-- A search sees in a filtered list what the filter lets through. -/
theorem find?_filter_of_imp {α : Type} {p q : α → Bool} {xs : List α} (h : ∀ x, q x = true → p x = true) :
    (xs.filter p).find? q = xs.find? q := by
  rw [List.find?_filter]
  congr 1
  funext x
  cases hq : q x with
  | false => simp
  | true => simp [h x hq]

/-! ### What the moves of the change list leave of it -/

theorem State.unstaged_appliedEntry (s : State) (d : FullSlot) : s.unstaged.appliedEntry d = s.appliedEntry d := by
  refine State.appliedEntry_congr (find?_filter_of_imp fun c hc => ?_) rfl
  simpa [Change.inFlight, Option.isSome_iff_ne_none] using (Change.inFlightFor_iff.mp hc).2

theorem State.unstaged_find?_stagedFor (s : State) (d : FullSlot) :
    s.unstaged.changes.find? (Change.stagedFor d) = none := by
  refine State.find?_stagedFor_eq_none fun c hc _ => ?_
  simpa [Change.inFlight, Option.isSome_iff_ne_none] using (List.mem_filter.mp hc).2

/-- What lies beneath the staged entries is what DISCARD leaves (R111). -/
theorem State.unstaged_projected (s : State) (d : FullSlot) : s.unstaged.projected d = s.appliedEntry d :=
  (State.projected_of_unstaged (s.unstaged_find?_stagedFor d)).trans (s.unstaged_appliedEntry d)

/-- A change list with a staged entry of `d` in it: other destinations, and the in-flight entries, do not see it. -/
theorem State.staged_cons {s u : State} {d : FullSlot} {older newer : List Change} {c : Change}
    (hs : s.changes = older ++ newer) (hu : u.changes = older ++ c :: newer) (hentry : ∀ d', u.entry d' = s.entry d')
    (hc : c.stagedFor d = true) :
    (∀ d', u.appliedEntry d' = s.appliedEntry d') ∧ ∀ d', d' ≠ d → u.projected d' = s.projected d' := by
  have happlied (d' : FullSlot) : u.appliedEntry d' = s.appliedEntry d' := by
    refine State.appliedEntry_congr ?_ (hentry d')
    rw [hs, hu, find?_append_cons_of_not (Change.inFlightFor_of_stagedFor hc)]
  refine ⟨happlied, fun d' hd => State.projected_congr ?_ (happlied d')⟩
  rw [hs, hu, find?_append_cons_of_not]
  rw [Change.stagedFor_eq_of_stagedFor hc]
  exact decide_eq_false hd.symm

/-- A staged entry is what its destination shows; nothing else is seen (R93). -/
theorem stageEntry_map (d : FullSlot) (e : MapEntry) (s : State) :
    (∀ d', (stageEntry d e s).2.appliedEntry d' = s.appliedEntry d') ∧
      (∀ d', d' ≠ d → (stageEntry d e s).2.projected d' = s.projected d') ∧
      ((stageEntry d e s).2.projected d = e ∨ (stageEntry d e s).2 = s) := by
  have hnew := Change.stagedFor_new d e
  obtain ⟨older, c, newer, hc, hp, hfirst, h⟩ | ⟨hn, h⟩ | h := stageEntry_cases d e s
  · rw [h]
    have ⟨hu, hup⟩ := State.staged_cons (s := { s with changes := older ++ newer })
      (u := { s with changes := older ++ { destination := d, entry := e, batch := none } :: newer }) rfl rfl
      (fun _ => rfl) hnew
    have ⟨hs, hsp⟩ := State.staged_cons (s := { s with changes := older ++ newer }) (u := s) rfl hc (fun _ => rfl) hp
    refine ⟨fun d' => (hu d').trans (hs d').symm, fun d' hd => (hup d' hd).trans (hsp d' hd).symm, .inl ?_⟩
    have hnone : older.find? (Change.stagedFor d) = none := List.find?_eq_none.mpr (by simpa using hfirst)
    rw [State.projected_eq, List.find?_append, hnone, Option.none_or, List.find?_cons_of_pos hnew]
    rfl
  · rw [h]
    have ⟨hu, hup⟩ := State.staged_cons (s := s) (newer := [])
      (u := { s with changes := s.changes ++ [{ destination := d, entry := e, batch := none }] })
      (List.append_nil _).symm rfl (fun _ => rfl) hnew
    refine ⟨hu, hup, .inl ?_⟩
    have hnone : s.changes.find? (Change.stagedFor d) = none := List.find?_eq_none.mpr (by simpa using hn)
    rw [State.projected_eq, List.find?_append, hnone, Option.none_or, List.find?_cons_of_pos hnew]
    rfl
  · rw [h]
    exact ⟨fun _ => rfl, fun _ _ => rfl, .inr rfl⟩

theorem State.withdraw_map {d : FullSlot} {s : State} (h : s.changes.any (Change.stagedFor d) = true) :
    (∀ d', (s.withdraw d).appliedEntry d' = s.appliedEntry d') ∧
      ∀ d', d' ≠ d → (s.withdraw d).projected d' = s.projected d' := by
  obtain ⟨older, c, newer, hc, hp, hu⟩ := State.withdraw_cases h
  have ⟨hs, hsp⟩ := State.staged_cons (s := s.withdraw d) (u := s) (by rw [hu]) hc (fun _ => rfl) hp
  exact ⟨fun d' => (hs d').symm, fun d' hd => (hsp d' hd).symm⟩

/-- Application keeps what is applied, and what is projected (R113). -/
theorem State.applyInFlight_map {s : State} (hone : s.OneEntryEach) (p : TrunkId → Bool) (d : FullSlot) :
    (s.applyInFlight p).appliedEntry d = s.appliedEntry d ∧ (s.applyInFlight p).projected d = s.projected d := by
  have hstaged : (s.applyInFlight p).changes.find? (Change.stagedFor d) = s.changes.find? (Change.stagedFor d) := by
    rw [State.applyInFlight_changes]
    exact find?_filter_of_imp fun c hc => by simp [(Change.stagedFor_iff.mp hc).2]
  have happlied : (s.applyInFlight p).appliedEntry d = s.appliedEntry d := by
    by_cases hp : p d.trunk = true
    · have hnone : (s.applyInFlight p).changes.find? (Change.inFlightFor d) = none := by
        rw [State.applyInFlight_changes]
        refine List.find?_eq_none.mpr fun c hc hf => ?_
        obtain ⟨rfl, hb⟩ := Change.inFlightFor_iff.mp hf
        have hkeep := (List.mem_filter.mp hc).2
        simp [hp, hb] at hkeep
      rw [State.appliedEntry_eq, hnone, State.applyInFlight_appliedEntry hone, if_pos hp]
      rfl
    · refine State.appliedEntry_congr ?_ ((State.applyInFlight_appliedEntry hone p d).trans (if_neg hp))
      rw [State.applyInFlight_changes]
      exact find?_filter_of_imp fun c hc => by simp [(Change.inFlightFor_iff.mp hc).1, hp]
  exact ⟨happlied, State.projected_congr hstaged happlied⟩

/-- Where every entry is staged, COMMIT leaves the projected map, and nothing staged above it (R115). -/
theorem State.putInFlight_map {s : State} (hs : ∀ c ∈ s.changes, c.batch = none) (d : FullSlot) :
    s.putInFlight.appliedEntry d = s.projected d ∧ s.putInFlight.projected d = s.projected d := by
  have hnone : s.putInFlight.changes.find? (Change.stagedFor d) = none := by
    rw [State.putInFlight_changes hs]
    refine List.find?_eq_none.mpr fun c hc => ?_
    obtain ⟨c, -, rfl⟩ := List.mem_map.mp hc
    simp [Change.stagedFor]
  have hflight : s.changes.find? (Change.inFlightFor d) = none :=
    List.find?_eq_none.mpr fun c hc => by simp [Change.inFlightFor, hs c hc]
  have happlied : s.putInFlight.appliedEntry d = s.projected d := by
    have hfind : s.putInFlight.changes.find? (Change.inFlightFor d) =
        (s.changes.find? (Change.stagedFor d)).map fun c => { c with batch := some s.nextBatch } := by
      rw [State.putInFlight_changes hs, List.find?_map]
      congr 1
      exact List.find?_congr fun c hc => by simp [Change.inFlightFor, Change.stagedFor, hs c hc]
    rw [State.projected_eq, State.appliedEntry_eq, State.appliedEntry_eq, hfind, hflight, Option.map_map]
    rfl
  exact ⟨happlied, (State.projected_of_unstaged hnone).trans happlied⟩

/-! ### What the moves leave of the map -/

/-- A move by what it makes of the map, the change list and the batch: those not named make an entry OPEN or FORCE, or
leave it. -/
theorem Move.map_cases {P : State → Prop} {s u : State} (h : Move s u)
    (quiet : ∀ u : State, u.changes = s.changes → u.batch = s.batch →
      (∀ d, u.entry d = s.entry d ∨ u.entry d = .opened ∨ ∃ v, u.entry d = .force v) → P u)
    (stage : ∀ d e, (e = .play → s.playElsewhere d = false) →
      (∀ source, e = .link source → s.projected d = .link source ∨ s.fanout source + 1 ≤ 12) → P (stageEntry d e s).2)
    (withdraw : ∀ d, s.changes.any (Change.stagedFor d) = true → s.unstageExceeds d = false → P (s.withdraw d))
    (discard : P s.unstaged) (apply : ∀ p, P (s.applyInFlight p))
    (commit : s.batch = none → s.stagedCount ≠ 0 → P (s.putInFlight.applyInFlight s.putInFlight.txHeld)) : P u := by
  cases h with
  | outside u heq => exact quiet u (by rw [heq]) (by rw [heq]) fun d => .inl (by rw [heq]; rfl)
  | trunks => exact quiet _ rfl rfl fun _ => .inl rfl
  | groups => exact quiet _ rfl rfl fun _ => .inl rfl
  | pairs => exact quiet _ rfl rfl fun _ => .inl rfl
  | leaveAlignment => exact quiet _ rfl rfl fun _ => .inl rfl
  | start => exact quiet _ rfl rfl fun _ => .inl rfl
  | halt t => exact quiet _ (by simp) (by simp) fun d => .inl (by simp [State.entry])
  | reformat t f =>
    refine quiet _ rfl rfl fun d => ?_
    have hentry : (s.reformat t f).entry d =
        reformatEntry t f.length (s.trunk t).format.width f.width d (s.entry d) := State.entry_mapEntries ..
    rw [hentry]
    unfold reformatEntry
    split
    · exact .inr (.inl rfl)
    · cases s.entry d with
      | link source => dsimp only; split <;> simp
      | force v => dsimp only; split <;> simp
      | _ => exact .inl rfl
  | clearForced t =>
    refine quiet _ (by simp) (by simp) fun d => ?_
    unfold State.clearForced
    split
    · exact .inl rfl
    · rw [State.entry_mapEntries]
      split
      · exact .inr (.inl rfl)
      · exact .inl rfl
  | stage d e _ _ _ hplay hlink => exact stage d e hplay hlink
  | withdraw d h hfanout => exact withdraw d h hfanout
  | discard => exact discard
  | apply p => exact apply p
  | commit hb hs => exact commit hb hs
  | finish =>
    obtain ⟨l, a, h⟩ := s.finish_state
    rw [h]
    exact quiet _ rfl rfl fun _ => .inl rfl

/-! ### One PLAY -/

theorem State.playElsewhere_eq_false {s : State} {d d' : FullSlot} (h : s.playElsewhere d = false) (hd : s.PlayIn d') :
    d' = d := by
  have ⟨hentry, hchange⟩ := Bool.or_eq_false_iff.mp h
  by_contra hne
  obtain hplay | ⟨c, hc, rfl, hplay⟩ := hd
  · have hmem : d' ∈ allSlots := by simp [allSlots, allTrunks]
    exact absurd (List.any_eq_false.mp hentry d' hmem) (by simp [hne, hplay])
  · exact absurd (List.any_eq_false.mp hchange c hc) (by simp [hne, hplay])

/-- A change list whose entries come from another with their destination and new entry. -/
theorem State.PlayIn.of {s u : State} (hentry : ∀ d, u.entry d = .play → s.PlayIn d)
    (hchange : ∀ c ∈ u.changes, ∃ c' ∈ s.changes, c'.destination = c.destination ∧ c'.entry = c.entry) {d : FullSlot}
    (h : u.PlayIn d) : s.PlayIn d := by
  obtain h | ⟨c, hc, hd, hplay⟩ := h
  · exact hentry d h
  · obtain ⟨c', hc', hd', he'⟩ := hchange c hc
    exact .inr ⟨c', hc', hd'.trans hd, he'.trans hplay⟩

theorem State.PlayIn.of_applyInFlight {s : State} {p : TrunkId → Bool} {d : FullSlot} (h : (s.applyInFlight p).PlayIn d) :
    s.PlayIn d := by
  refine State.PlayIn.of (fun d hplay => ?_) (fun c hc => ⟨c, ?_, rfl, rfl⟩) h
  · rw [State.applyInFlight_entry] at hplay
    split at hplay
    next c hfind =>
      have hmem := (List.mem_filter.mp (List.mem_reverse.mp (List.mem_of_find?_eq_some hfind))).1
      exact .inr ⟨c, hmem, by simpa using List.find?_some hfind, hplay⟩
    · exact .inl hplay
  · rw [State.applyInFlight_changes] at hc
    exact (List.mem_filter.mp hc).1

theorem State.PlayIn.of_putInFlight {s : State} {d : FullSlot} (h : s.putInFlight.PlayIn d) : s.PlayIn d := by
  refine State.PlayIn.of (s := s) (u := s.putInFlight) (fun _ => .inl) (fun c hc => ?_) h
  obtain ⟨c, hmem, rfl⟩ := List.mem_map.mp hc
  exact ⟨c, hmem, by split <;> rfl, by split <;> rfl⟩

/-- A change entry after a staging is an old one or the one staged. -/
theorem mem_stageEntry {s : State} {d : FullSlot} {e : MapEntry} {c : Change} (hc : c ∈ (stageEntry d e s).2.changes) :
    c ∈ s.changes ∨ c = { destination := d, entry := e, batch := none } := by
  obtain ⟨older, c', newer, hs, -, -, hu⟩ | ⟨-, hu⟩ | hu := stageEntry_cases d e s <;> rw [hu] at hc
  · rw [hs]
    simp only [List.mem_append, List.mem_cons] at hc ⊢
    tauto
  · simpa using hc
  · exact .inl hc

/-- Staging shows PLAY at its destination only, and only where it stages PLAY. -/
theorem State.PlayIn.of_stageEntry {s : State} {d d' : FullSlot} {e : MapEntry} (h : (stageEntry d e s).2.PlayIn d') :
    s.PlayIn d' ∨ (d' = d ∧ e = .play) := by
  obtain h | ⟨c, hc, rfl, hplay⟩ := h
  · obtain ⟨cs, hu⟩ := stageEntry_state d e s
    rw [hu] at h
    exact .inl (.inl h)
  · obtain hc | rfl := mem_stageEntry hc
    · exact .inl (.inr ⟨c, hc, rfl, hplay⟩)
    · exact .inr ⟨rfl, hplay⟩

theorem keeps_onePlay {s u : State} (h : Move s u) (hs : s.OnePlay) : u.OnePlay := by
  have hmono : ∀ u : State, (∀ d, u.PlayIn d → s.PlayIn d) → u.OnePlay :=
    fun u hu d d' hd hd' => hs d d' (hu d hd) (hu d' hd')
  refine h.map_cases (P := State.OnePlay) (fun u hc _ hentry => hmono u fun d => ?quiet) (fun d e hplay _ => ?stage)
    (fun d _ _ => hmono _ fun d => ?withdraw) (hmono _ fun d => ?discard) (fun p => hmono _ fun d => .of_applyInFlight)
    fun _ _ => hmono _ fun d h => .of_putInFlight (.of_applyInFlight h)
  case quiet =>
    refine State.PlayIn.of (fun d hplay => ?_) fun c h => ⟨c, hc ▸ h, rfl, rfl⟩
    obtain h | h | ⟨v, h⟩ := hentry d
    · exact .inl (h ▸ hplay)
    · rw [h] at hplay; exact absurd hplay (by simp)
    · rw [h] at hplay; exact absurd hplay (by simp)
  case stage =>
    intro d₁ d₂ h₁ h₂
    obtain hold₁ | ⟨hd₁, he⟩ := State.PlayIn.of_stageEntry h₁ <;>
      obtain hold₂ | ⟨hd₂, he'⟩ := State.PlayIn.of_stageEntry h₂
    · exact hs d₁ d₂ hold₁ hold₂
    · exact (State.playElsewhere_eq_false (hplay he') hold₁).trans hd₂.symm
    · exact hd₁.trans (State.playElsewhere_eq_false (hplay he) hold₂).symm
    · exact hd₁.trans hd₂.symm
  case withdraw => exact State.PlayIn.of (s := s) (u := s.withdraw _) (fun _ => .inl) fun c h =>
    ⟨c, List.mem_of_mem_eraseP (p := Change.stagedFor _) h, rfl, rfl⟩
  case discard => exact State.PlayIn.of (s := s) (u := s.unstaged) (fun _ => .inl) fun c h => ⟨c, (List.mem_filter.mp h).1, rfl, rfl⟩

theorem State.resetBy_onePlay (s : State) (kind : ResetKind) : (s.resetBy kind).OnePlay := by
  rintro d d' (h | ⟨c, hc, -⟩) -
  · rw [State.entry_resetBy] at h
    exact absurd h (by simp)
  · exact absurd hc List.not_mem_nil

theorem kept_onePlay : Kept State.OnePlay where
  move _ _ := keeps_onePlay
  link _ _ h := h
  pending _ _ h := h
  reset s kind _ := s.resetBy_onePlay kind

/-! ### The fan-out limit (R96) -/

theorem nodup_allSlots : allSlots.Nodup := by
  refine List.nodup_flatMap.mpr ⟨fun t _ => (List.nodup_finRange 40).map fun d d' h => by simpa using h, ?_⟩
  refine (List.nodup_finRange 8).imp fun {t t'} hne => ?_
  simp only [Function.onFun, List.disjoint_left, List.mem_map]
  rintro _ ⟨d, -, rfl⟩ ⟨d', -, h⟩
  exact hne (by simpa using (congrArg FullSlot.trunk h).symm)

/-- A count that one element of a list without repetitions can raise, rises by one at most. -/
theorem countP_le_succ {α : Type} [DecidableEq α] {xs : List α} (hxs : xs.Nodup) {p q : α → Bool} (a : α)
    (h : ∀ x, x ≠ a → q x = true → p x = true) : xs.countP q ≤ xs.countP p + 1 := by
  induction xs with
  | nil => exact Nat.zero_le _
  | cons x xs ih =>
    obtain ⟨hx, hxs⟩ := List.nodup_cons.mp hxs
    rw [List.countP_cons, List.countP_cons]
    by_cases hxa : x = a
    · have hrest : xs.countP q ≤ xs.countP p :=
        List.countP_mono_left fun y hy hq => h y (fun hya => hx (hxa.trans hya.symm ▸ hy)) hq
      split <;> split <;> omega
    · have hhead := h x hxa
      have hrest := ih hxs
      split <;> split <;> simp_all
      omega

/-- A map whose links are links of another has no more of them. -/
theorem State.FanoutLaw.of {s u : State} (hs : s.FanoutLaw)
    (hprojected : ∀ d source, u.projected d = .link source → s.projected d = .link source)
    (happlied : ∀ d source, u.appliedEntry d = .link source → s.appliedEntry d = .link source) : u.FanoutLaw := by
  intro source
  obtain ⟨h1, h2⟩ := hs source
  refine ⟨le_trans (List.countP_mono_left fun d _ h => ?_) h1, le_trans (List.countP_mono_left fun d _ h => ?_) h2⟩
  · simpa using hprojected d source (by simpa using h)
  · rw [State.unstaged_projected] at h ⊢
    simpa using happlied d source (by simpa using h)

/-- What lies beneath the staged entries keeps its fan-out when it is kept. -/
theorem State.unstaged_fanout_congr {s u : State} (h : ∀ d, u.appliedEntry d = s.appliedEntry d) (source : FullSlot) :
    u.unstaged.fanout source = s.unstaged.fanout source := by
  simp only [State.fanout, State.unstaged_projected, h]

theorem stageEntry_fanoutLaw {s : State} (hs : s.FanoutLaw) {d : FullSlot} {e : MapEntry}
    (hlink : ∀ source, e = .link source → s.projected d = .link source ∨ s.fanout source + 1 ≤ 12) :
    (stageEntry d e s).2.FanoutLaw := by
  obtain ⟨happlied, hother, hd | hu⟩ := stageEntry_map d e s
  · intro source
    refine ⟨?_, (State.unstaged_fanout_congr happlied source).trans_le (hs source).2⟩
    by_cases hroom : s.fanout source + 1 ≤ 12
    · refine le_trans (countP_le_succ nodup_allSlots d fun d' hne h => ?_) hroom
      rwa [hother d' hne] at h
    · refine le_trans (List.countP_mono_left fun d' _ h => ?_) (hs source).1
      by_cases hne : d' = d
      · subst hne
        have he : e = .link source := by rw [hd] at h; simpa using h
        simpa using (hlink source he).resolve_right hroom
      · rwa [hother d' hne] at h
  · rwa [hu]

theorem withdraw_fanoutLaw {s : State} (hs : s.FanoutLaw) {d : FullSlot} (hstaged : s.changes.any (Change.stagedFor d) = true)
    (hfanout : s.unstageExceeds d = false) : (s.withdraw d).FanoutLaw := by
  obtain ⟨happlied, hother⟩ := State.withdraw_map hstaged
  intro source
  refine ⟨?_, (State.unstaged_fanout_congr happlied source).trans_le (hs source).2⟩
  by_cases hnew : (s.withdraw d).projected d = .link source ∧ s.projected d ≠ .link source
  · obtain ⟨hlink, hold⟩ := hnew
    have h : ¬Config.fanoutLimit < (s.withdraw d).fanout source := by
      simpa [State.unstageExceeds, hlink, hold] using hfanout
    exact not_lt.mp h
  · refine le_trans (List.countP_mono_left fun d' _ h => ?_) (hs source).1
    by_cases hne : d' = d
    · subst hne
      have hold : s.projected d' = .link source := not_not.mp fun hold => hnew ⟨by simpa using h, hold⟩
      simpa using hold
    · rwa [hother d' hne] at h

theorem keeps_fanoutLaw {s u : State} (h : Move s u) (hbatch : s.BatchLaw) (hone : s.OneEntryEach) (hs : s.FanoutLaw) :
    u.FanoutLaw := by
  refine h.map_cases (P := State.FanoutLaw) (fun u hc _ hentry => ?quiet) (fun d e _ hlink => stageEntry_fanoutLaw hs hlink)
    (fun d hstaged hfanout => withdraw_fanoutLaw hs hstaged hfanout) (fun source => ⟨(hs source).2, ?discard⟩)
    (fun p => hs.of (fun d _ h => ?_) fun d _ h => ?_) fun hb hstaged => ?commit
  case quiet =>
    have happlied : ∀ d source, u.appliedEntry d = .link source → s.appliedEntry d = .link source := by
      intro d source h
      rw [State.appliedEntry_eq, hc] at h
      rw [State.appliedEntry_eq]
      cases hfind : s.changes.find? (Change.inFlightFor d) with
      | some c => simpa [hfind] using h
      | none =>
        rw [hfind] at h
        obtain he | he | ⟨v, he⟩ := hentry d <;> simp_all
    refine hs.of (fun d source h => ?_) happlied
    rw [State.projected_eq, hc] at h
    rw [State.projected_eq]
    cases hfind : s.changes.find? (Change.stagedFor d) with
    | some c => simpa [hfind] using h
    | none =>
      rw [hfind] at h
      exact happlied d source h
  case discard =>
    rw [State.unstaged_fanout_congr s.unstaged_appliedEntry]
    exact (hs source).2
  case commit =>
    have hall := hbatch.staged hb
    have hone' := State.putInFlight_oneEntryEach hall hone
    have hmap (d : FullSlot) := State.applyInFlight_map hone' s.putInFlight.txHeld d
    have hput (d : FullSlot) := State.putInFlight_map hall d
    intro source
    simp only [State.fanout, State.unstaged_projected, (hmap _).1, (hmap _).2, (hput _).1, (hput _).2]
    exact ⟨(hs source).1, (hs source).1⟩
  · rwa [(State.applyInFlight_map hone p d).2] at h
  · rwa [(State.applyInFlight_map hone p d).1] at h

theorem State.resetBy_fanoutLaw (s : State) (kind : ResetKind) : (s.resetBy kind).FanoutLaw := by
  intro source
  have happlied (d : FullSlot) : (s.resetBy kind).appliedEntry d = .opened := s.entry_resetBy kind d
  have hprojected (d : FullSlot) : (s.resetBy kind).projected d = .opened := s.entry_resetBy kind d
  have hzero : (MapEntry.opened == MapEntry.link source) = false := rfl
  simp only [State.fanout, State.unstaged_projected, happlied, hprojected, hzero, List.countP_false]
  exact ⟨Nat.zero_le _, Nat.zero_le _⟩

theorem kept_fanoutLaw : Kept fun s => (s.BatchLaw ∧ s.OneEntryEach) ∧ s.FanoutLaw where
  move _ _ h hs := ⟨kept_batchLaw.move _ _ h hs.1, keeps_fanoutLaw h hs.1.1 hs.1.2 hs.2⟩
  link _ _ h := h
  pending _ _ h := h
  reset s kind _ := ⟨s.resetBy_batchLaw kind, s.resetBy_fanoutLaw kind⟩

/-- Settles O60: only staging shows a new PLAY or a new link, and it checks both. -/
theorem stepKeepsMapLaws : Obligations.StepKeepsMapLaws :=
  ⟨fun _ _ hs h => kept_onePlay.step h hs, fun _ _ hone hbatch hs h => (kept_fanoutLaw.step h ⟨⟨hbatch, hone⟩, hs⟩).2⟩

end Sys2Proof.Machine
end

section
/-! LAWS. A trunk, a pair and an entry after a move, and the laws of masks, stores, slots and values. -/

namespace Sys2Proof.Machine

/-! ### One trunk, one pair, one entry -/

/-- What FORMAT makes of a trunk's record (R14). -/
def Trunk.reformatted (f : Format) (k : Trunk) : Trunk :=
  { k with
    format := f
    rxMask := k.rxMask.resize k.format.length f.length
    txMask := k.txMask.resize k.format.length f.length }

/-- A move as trunk `t` sees it. -/
theorem Move.trunk_cases {P : Trunk → Prop} {s u : State} (h : Move s u) (t : TrunkId)
    (trunk : ∀ k, TrunkMove s t k → P k)
    (leave : ∀ rx : Receive, rx.state ≠ .aligned →
      P { s.trunk t with rx := rx, rxMask := (s.trunk t).rxMask.activate, store := .empty })
    (run : P { s.trunk t with tx := { Transmit.reset with state := .run } }) (halt : P { s.trunk t with tx := .reset })
    (reformat : ∀ f : Format, 2 ≤ f.length → f.length ≤ 40 → f.width.holds f.idle = true → (s.trunk t).rx.state = .held →
      (s.trunk t).tx.state = .held → P ((s.trunk t).reformatted f)) : P (u.trunk t) := by
  have same : P (s.trunk t) := trunk _ .same
  have quiet : ∀ u : State, u.trunks = s.trunks → P (u.trunk t) := fun u hu => by
    have ht : u.trunk t = s.trunk t := by simp only [State.trunk, hu]
    rwa [ht]
  cases h with
  | outside u heq => exact quiet u (by rw [heq])
  | trunks ks hks => exact trunk _ (hks t)
  | groups => exact same
  | pairs => exact same
  | leaveAlignment t' rx hstate =>
    rw [State.leaveAlignment_trunk]
    split
    next ht => subst ht; exact leave rx hstate
    · exact same
  | start t' u =>
    rw [State.modifyGroup_trunk, State.trunk_modifyTrunk]
    split
    next ht => subst ht; exact run
    · exact same
  | halt t' =>
    rw [State.haltTransmit_trunk]
    split
    next ht => subst ht; exact halt
    · exact same
  | reformat t' f hlow hhigh hidle hrx htx =>
    rw [State.reformat_trunk]
    split
    next ht => subst ht; exact reformat f hlow hhigh hidle hrx htx
    · exact same
  | clearForced t' =>
    obtain ⟨m, h⟩ := s.clearForced_state t'
    rw [h]
    exact same
  | stage d e =>
    obtain ⟨c, h⟩ := stageEntry_state d e s
    rw [h]
    exact same
  | withdraw => exact same
  | discard => exact same
  | apply p => exact quiet _ (by simp)
  | commit => exact quiet _ (by simp [State.putInFlight])
  | finish => exact quiet _ (by simp)

/-- What a move can make of a pair's snapshot. -/
theorem Move.snapshot {s u : State} (h : Move s u) (g : GroupId) (t : TrunkId) :
    (u.pair g t).snapshot = (s.pair g t).snapshot ∨ (u.pair g t).snapshot = none ∨
      (u.pair g t).snapshot = ((s.pair g t).select (s.trunk t)).snapshot := by
  refine h.tables_cases
    (P := fun u => (u.pair g t).snapshot = (s.pair g t).snapshot ∨ (u.pair g t).snapshot = none ∨
      (u.pair g t).snapshot = ((s.pair g t).select (s.trunk t)).snapshot)
    (fun u _ _ hpairs _ => .inl (by simp only [State.pair, hpairs])) (fun _ _ => .inl rfl) (fun _ _ => .inl rfl)
    (fun f hf => ?pairs) (fun t' rx _ _ => ?leave) (fun _ _ _ _ _ _ _ _ _ _ _ _ _ => .inl rfl) (fun t' => ?halt)
    fun t' f _ => .inl (by simp [State.reformat])
  case pairs =>
    rw [State.pair_mapPairs]
    have hm := hf g t
    generalize f g t (s.pair g t) = p at hm
    cases hm with
    | count _ _ hsnapshot => exact .inl hsnapshot
    | select => exact .inr (.inr rfl)
  case leave =>
    rw [State.leaveAlignment_pair]
    split <;> exact .inl rfl
  case halt =>
    rw [State.haltTransmit_pair]
    split
    · exact .inr (.inl rfl)
    · exact .inl rfl

/-- A selection takes nothing, or copies a stored frame with its length and width (R74). -/
theorem Pair.select_snapshot (p : Pair) (k : Trunk) :
    (p.select k).snapshot = none ∨ ∃ f ∈ k.store.frames,
      (p.select k).snapshot = some { seq := f.seq, values := f.values, length := k.format.length, width := k.format.width } := by
  have take (p : Pair) (seq : BitVec 16) : (p.takeFrame k seq).snapshot = none ∨ ∃ f ∈ k.store.frames,
      (p.takeFrame k seq).snapshot =
        some { seq := f.seq, values := f.values, length := k.format.length, width := k.format.width } := by
    unfold Pair.takeFrame FrameStore.frame?
    cases hfind : k.store.frames.find? (·.seq == seq) with
    | none => exact .inl rfl
    | some f => exact .inr ⟨f, List.mem_of_find?_eq_some hfind, rfl⟩
  unfold Pair.select
  split
  · split
    · exact .inl rfl
    · split <;> exact take p _
    · split
      · exact take p _
      · split <;> exact take p _
  · exact .inl rfl

/-- What holds of every active entry and of every change entry. -/
def State.Entries (Q R : FullSlot → MapEntry → Prop) (s : State) : Prop :=
  (∀ d, Q d (s.entry d)) ∧ ∀ c ∈ s.changes, R c.destination c.entry

theorem State.Entries.of {Q R : FullSlot → MapEntry → Prop} {s u : State} (hs : s.Entries Q R) (hmap : u.map = s.map)
    (hchanges : ∀ c ∈ u.changes, c ∈ s.changes) : u.Entries Q R :=
  ⟨fun d => by have := hs.1 d; simpa only [State.entry, hmap], fun c hc => hs.2 c (hchanges c hc)⟩

theorem State.Entries.applyInFlight {Q R : FullSlot → MapEntry → Prop} (hRQ : ∀ d e, R d e → Q d e) {s : State}
    (hs : s.Entries Q R) (p : TrunkId → Bool) : (s.applyInFlight p).Entries Q R := by
  refine ⟨fun d => ?_, fun c hc => ?_⟩
  · rw [State.applyInFlight_entry]
    split
    next c hfind =>
      have hmem := (List.mem_filter.mp (List.mem_reverse.mp (List.mem_of_find?_eq_some hfind))).1
      have hd : c.destination = d := by simpa using List.find?_some hfind
      exact hRQ _ _ (hd ▸ hs.2 c hmem)
    · exact hs.1 d
  · rw [State.applyInFlight_changes] at hc
    exact hs.2 c (List.mem_filter.mp hc).1

theorem State.Entries.putInFlight {Q R : FullSlot → MapEntry → Prop} {s : State} (hs : s.Entries Q R) :
    s.putInFlight.Entries Q R := by
  refine ⟨hs.1, fun c hc => ?_⟩
  obtain ⟨c, hmem, rfl⟩ := List.mem_map.mp hc
  split <;> exact hs.2 c hmem

/-- Every move but FORMAT keeps the formats, and what holds of all entries and of those staged. -/
theorem Move.entries {Q R : FullSlot → MapEntry → Prop} (hRQ : ∀ d e, R d e → Q d e) (hopened : ∀ d, Q d .opened)
    {s u : State} (h : Move s u) (hs : s.Entries Q R)
    (hstage : ∀ d e, s.exists d = true → s.namesExisting e = true → e.fits (s.trunk d.trunk).format.width = true → R d e) :
    (∃ t f, u = s.reformat t f ∧ (s.trunk t).rx.state = .held ∧ (s.trunk t).tx.state = .held ∧
        ∀ c ∈ s.changes, c.names t = false) ∨
      ((∀ t, (u.trunk t).format = (s.trunk t).format) ∧ u.Entries Q R) := by
  have quiet : ∀ u : State, u.trunks = s.trunks → u.map = s.map → (∀ c ∈ u.changes, c ∈ s.changes) →
      (∀ t, (u.trunk t).format = (s.trunk t).format) ∧ u.Entries Q R := fun u ht hm hc =>
    ⟨fun t => by simp only [State.trunk, ht], hs.of hm hc⟩
  cases h with
  | reformat t f _ _ _ hrx htx hnames => exact .inl ⟨t, f, rfl, hrx, htx, hnames⟩
  | outside u heq => exact .inr (quiet u (by rw [heq]) (by rw [heq]) (by rw [heq]; exact fun _ => id))
  | trunks ks hks =>
    refine .inr ⟨fun t => ?_, hs⟩
    have hk := hks t
    change ks[t].format = _
    generalize ks[t] = k at hk
    cases hk <;> rfl
  | groups => exact .inr (quiet _ rfl rfl fun _ => id)
  | pairs => exact .inr (quiet _ rfl rfl fun _ => id)
  | leaveAlignment t rx =>
    refine .inr ⟨fun t' => ?_, hs⟩
    rw [State.leaveAlignment_trunk]
    split
    next ht => rw [ht]
    · rfl
  | start t u =>
    refine .inr ⟨fun t' => ?_, hs⟩
    rw [State.modifyGroup_trunk, State.trunk_modifyTrunk]
    split
    next ht => rw [ht]
    · rfl
  | halt t =>
    refine .inr ⟨fun t' => ?_, hs.of (by simp) (by simp)⟩
    rw [State.haltTransmit_trunk]
    split
    next ht => rw [ht]
    · rfl
  | clearForced t =>
    unfold State.clearForced
    split
    · exact .inr ⟨fun _ => rfl, hs⟩
    · refine .inr ⟨fun t => by simp, fun d => ?_, by simpa using hs.2⟩
      rw [State.entry_mapEntries]
      split
      · exact hopened d
      · exact hs.1 d
  | stage d e hd he hfits =>
    obtain ⟨cs, hcs⟩ := stageEntry_state d e s
    refine .inr ⟨by rw [hcs]; exact fun _ => rfl, by rw [hcs]; exact hs.1, fun c hc => ?_⟩
    obtain hold | rfl := mem_stageEntry hc
    · exact hs.2 c hold
    · exact hstage d e hd he hfits
  | withdraw d => exact .inr (quiet _ rfl rfl fun _ hc => List.mem_of_mem_eraseP hc)
  | discard => exact .inr (quiet _ rfl rfl fun _ hc => (List.mem_filter.mp hc).1)
  | apply p => exact .inr ⟨fun t => by simp, hs.applyInFlight hRQ p⟩
  | commit => exact .inr ⟨fun t => by simp [State.putInFlight, State.trunk], hs.putInFlight.applyInFlight hRQ _⟩
  | finish => exact .inr (quiet _ (by simp) (by simp) (by simp))

/-! ### The law of masks -/

/-- A trunk's part of the law of masks (R12, R32). -/
abbrev Trunk.Masked (k : Trunk) : Prop :=
  2 ≤ k.format.length ∧ k.format.length ≤ 40 ∧ k.rxMask.Below k.format.length ∧ k.txMask.Below k.format.length

theorem State.maskLaw_iff {s : State} : s.MaskLaw ↔ ∀ t, (s.trunk t).Masked := by
  simp only [State.MaskLaw, Trunk.Masked, Mask.Below, and_assoc]

theorem resizeSet_below (old new : Nat) (m : SlotSet) : resizeSet old new m &&& ~~~slotsBelow new = 0#40 := by
  refine BitVec.eq_of_getLsbD_eq fun i hi => ?_
  simp only [resizeSet, BitVec.getLsbD_and, BitVec.getLsbD_or, BitVec.getLsbD_not, BitVec.getLsbD_zero, hi, decide_true,
    Bool.true_and]
  cases (slotsBelow new).getLsbD i <;> simp

theorem keeps_maskLaw {s u : State} (h : Move s u) (hs : s.MaskLaw) : u.MaskLaw := by
  rw [State.maskLaw_iff] at *
  intro t
  obtain ⟨hlow, hhigh, hrx, htx⟩ := hs t
  refine h.trunk_cases (P := Trunk.Masked) t (fun k hk => ?trunk) (fun _ _ => ⟨hlow, hhigh, Mask.activate_below hrx, htx⟩)
    ⟨hlow, hhigh, hrx, htx⟩ ⟨hlow, hhigh, hrx, htx⟩
    fun f hlow' hhigh' _ _ _ => ⟨hlow', hhigh', ⟨resizeSet_below .., resizeSet_below ..⟩, resizeSet_below .., resizeSet_below ..⟩
  case trunk =>
    cases hk with
    | frame => exact ⟨hlow, hhigh, Mask.activate_below hrx, htx⟩
    | masks _ _ _ hrx' htx' => exact ⟨hlow, hhigh, hrx' hrx, htx' htx⟩
    | _ => exact ⟨hlow, hhigh, hrx, htx⟩

theorem State.resetBy_maskLaw (s : State) (kind : ResetKind) : (s.resetBy kind).MaskLaw := State.maskLaw_iff.mpr fun t => by
  rw [State.trunk_resetBy]
  exact ⟨by decide, by decide, ⟨by decide, by decide⟩, by decide, by decide⟩

theorem kept_maskLaw : Kept State.MaskLaw where
  move _ _ := keeps_maskLaw
  link _ _ h := h
  pending _ _ h := h
  reset s kind _ := s.resetBy_maskLaw kind

/-! ### The law of stores -/

/-- A trunk's part of the law of stores (R22, R23, R67). -/
abbrev Trunk.Stored (k : Trunk) : Prop :=
  (k.rx.state ≠ .aligned → k.store = .empty) ∧ (k.rx.state = .aligned → k.store.filling.isSome = true) ∧
    (k.store.frames.mapIdx fun i f => f.seq + BitVec.ofNat 16 (k.store.frames.length - i)) =
      k.store.frames.map (fun _ => k.store.next) ∧
    ∀ f ∈ k.store.frames, f.values.length = k.format.length

theorem mapIdx_eq_map_iff {α β : Type} {xs : List α} {f : Nat → α → β} {g : α → β} :
    xs.mapIdx f = xs.map g ↔ ∀ (i : Nat) (h : i < xs.length), f i xs[i] = g xs[i] := by
  refine ⟨fun h i hi => ?_, fun h => List.ext_getElem (by simp) fun i hi _ => ?_⟩
  · have hlt : i < (xs.mapIdx f).length := by simpa using hi
    simpa using List.getElem_of_eq h hlt
  · simpa using h i (by simpa using hi)

/-- The completed frames carry the numbers that lead up to the next one (R67). -/
def FrameStore.Numbered (store : FrameStore) : Prop :=
  ∀ (i : Nat) (h : i < store.frames.length),
    store.frames[i].seq + BitVec.ofNat 16 (store.frames.length - i) = store.next

theorem FrameStore.numbered_iff {store : FrameStore} :
    (store.frames.mapIdx fun i f => f.seq + BitVec.ofNat 16 (store.frames.length - i)) =
      store.frames.map (fun _ => store.next) ↔ store.Numbered := mapIdx_eq_map_iff

/-- Of a full store the oldest frame leaves. -/
theorem FrameStore.push_frames (store : FrameStore) (values : List Value) :
    ∃ n, (store.push values).frames = store.frames.drop n ++ [{ seq := store.next, values := values }] := by
  unfold FrameStore.push
  split
  · exact ⟨0, rfl⟩
  · exact ⟨1, rfl⟩

theorem FrameStore.push_numbered {store : FrameStore} (h : store.Numbered) (values : List Value) :
    (store.push values).Numbered := by
  obtain ⟨n, hn⟩ := store.push_frames values
  have hnext : (store.push values).next = store.next + 1#16 := rfl
  intro i hi
  simp only [hn, hnext, List.length_append, List.length_drop, List.length_singleton] at hi ⊢
  by_cases hlast : i < store.frames.length - n
  · have hold := h (n + i) (by omega)
    rw [List.getElem_append_left (by simpa using hlast), List.getElem_drop, ← hold,
      show store.frames.length - n + 1 - i = store.frames.length - (n + i) + 1 by omega]
    bv_omega
  · rw [List.getElem_append_right (by simpa using Nat.le_of_not_lt hlast)]
    rw [show store.frames.length - n + 1 - i = 1 by omega]
    simp

theorem frameSlots_length : ∀ n ≤ 40, (frameSlots n).length = n := by decide

theorem Trunk.frameValues_length {k : Trunk} (h : k.format.length ≤ 40) (line : LineBits) :
    (k.frameValues line).length = k.format.length := by
  rw [Trunk.frameValues, List.length_map, frameSlots_length _ h]

theorem TrunkMove.stored {s : State} {t : TrunkId} {k : Trunk} (h : TrunkMove s t k) (hlength : (s.trunk t).format.length ≤ 40)
    (hs : (s.trunk t).Stored) : k.Stored := by
  have ⟨hempty, hfilling, hnumbers, hvalues⟩ := hs
  cases h with
  | receive rx hstate => exact ⟨fun h => hempty (mt hstate.mpr h), fun h => hfilling (hstate.mp h), hnumbers, hvalues⟩
  | align rx hhunt hstate => exact ⟨fun h => absurd hstate h, fun _ => rfl, hnumbers, hvalues⟩
  | frame n line haligned =>
    refine ⟨fun h => absurd haligned h, fun _ => rfl, FrameStore.numbered_iff.mpr ?_, fun f hf => ?_⟩
    · exact FrameStore.push_numbered (FrameStore.numbered_iff.mp hnumbers) _
    · obtain ⟨m, hm⟩ := (s.trunk t).store.push_frames ((s.trunk t).frameValues line)
      dsimp only at hf
      rw [hm] at hf
      obtain hf | hf := List.mem_append.mp hf
      · exact hvalues f (List.mem_of_mem_drop hf)
      · rw [List.mem_singleton.mp hf]
        exact Trunk.frameValues_length hlength line
  | _ => exact ⟨hempty, hfilling, hnumbers, hvalues⟩

theorem FrameStore.empty_stored {k : Trunk} (hstate : k.rx.state ≠ .aligned) (hstore : k.store = .empty) : k.Stored := by
  refine ⟨fun _ => hstore, fun h => absurd h hstate, ?_⟩
  rw [hstore]
  exact ⟨rfl, fun f hf => absurd hf List.not_mem_nil⟩

theorem keeps_storeLaw {s u : State} (h : Move s u) (hmask : s.MaskLaw) (hs : s.StoreLaw) : u.StoreLaw := by
  obtain ⟨htrunks, hpairs⟩ := hs
  refine ⟨fun t => ?_, fun g t f hf => ?_⟩
  · have hstored : (s.trunk t).Stored := htrunks t
    refine h.trunk_cases (P := Trunk.Stored) t (fun k hk => hk.stored (hmask t).2.1 hstored)
      (fun rx hstate => FrameStore.empty_stored hstate rfl) hstored hstored fun f _ _ _ hrx _ => ?_
    have hnot : (s.trunk t).rx.state ≠ .aligned := by simp [hrx]
    exact FrameStore.empty_stored hnot (hstored.1 hnot)
  · obtain hu | hu | hu := h.snapshot g t <;> rw [hu] at hf
    · exact hpairs g t f hf
    · exact absurd hf (by simp)
    · obtain hnone | ⟨f', hmem, htaken⟩ := (s.pair g t).select_snapshot (s.trunk t)
      · simp [hnone] at hf
      · obtain rfl := Option.some.inj (htaken.symm.trans hf)
        exact (htrunks t).2.2.2 f' hmem

theorem State.resetBy_storeLaw (s : State) (kind : ResetKind) : (s.resetBy kind).StoreLaw := by
  refine ⟨fun t => ?_, fun g t f hf => ?_⟩
  · rw [State.trunk_resetBy]
    exact FrameStore.empty_stored (k := .reset) (by decide) rfl
  · simp [Pair.reset] at hf

theorem kept_storeLaw : Kept fun s => s.MaskLaw ∧ s.StoreLaw where
  move _ _ h hs := ⟨keeps_maskLaw h hs.1, keeps_storeLaw h hs.1 hs.2⟩
  link _ _ h := h
  pending _ _ h := h
  reset s kind _ := ⟨s.resetBy_maskLaw kind, s.resetBy_storeLaw kind⟩

/-! ### The law of slots -/

theorem State.exists_congr {s u : State} (h : ∀ t, (u.trunk t).format = (s.trunk t).format) (d : FullSlot) :
    u.exists d = s.exists d := by rw [State.exists, State.exists, h]

theorem State.namesExisting_congr {s u : State} {e : MapEntry} (h : ∀ source, e = .link source → u.exists source = s.exists source) :
    u.namesExisting e = s.namesExisting e := by
  cases e with
  | link source => exact h source rfl
  | _ => rfl

/-- What the law of slots says of an active entry. -/
def State.EntryExists (s : State) (d : FullSlot) (e : MapEntry) : Prop :=
  s.namesExisting e = true ∧ (s.exists d = false → e = .opened)

/-- What the law of slots says of a change entry. -/
def State.ChangeExists (s : State) (d : FullSlot) (e : MapEntry) : Prop := s.exists d = true ∧ s.namesExisting e = true

theorem State.slotLaw_iff {s : State} : s.SlotLaw ↔ s.Entries s.EntryExists s.ChangeExists := And.comm

theorem State.reformat_exists (s : State) (t : TrunkId) (f : Format) (d : FullSlot) :
    (s.reformat t f).exists d = if d.trunk = t then decide (d.slot.val < f.length) else s.exists d := by
  rw [State.exists, State.reformat_trunk]
  split <;> rfl

/-- A change entry that does not name a trunk has neither its destination nor its source there. -/
theorem Change.names_eq_false {t : TrunkId} {c : Change} (h : c.names t = false) :
    c.destination.trunk ≠ t ∧ ∀ source, c.entry = .link source → source.trunk ≠ t := by
  have ⟨hd, hsource⟩ := Bool.or_eq_false_iff.mp h
  refine ⟨by simpa using hd, fun source he => ?_⟩
  rw [he] at hsource
  simpa using hsource

theorem State.entry_reformat (s : State) (t : TrunkId) (f : Format) (d : FullSlot) :
    (s.reformat t f).entry d = reformatEntry t f.length (s.trunk t).format.width f.width d (s.entry d) :=
  State.entry_mapEntries ..

/-- After a FORMAT no active entry names a slot that the new length lacks (R15). -/
theorem State.reformat_entryExists {s : State} {t : TrunkId} {f : Format} {d : FullSlot} (h : s.EntryExists d (s.entry d)) :
    (s.reformat t f).EntryExists d ((s.reformat t f).entry d) := by
  rw [State.entry_reformat]
  obtain ⟨hnames, hopened⟩ := h
  by_cases hgone : d.trunk = t ∧ f.length ≤ d.slot.val
  · rw [reformatEntry.eq_def, if_pos hgone]
    exact ⟨rfl, fun _ => rfl⟩
  · have hstays : (s.reformat t f).exists d = false → s.entry d = .opened := by
      intro hnot
      rw [State.reformat_exists] at hnot
      split at hnot
      next ht => exact absurd ⟨ht, by simpa using hnot⟩ hgone
      · exact hopened hnot
    rw [reformatEntry.eq_def, if_neg hgone]
    cases he : s.entry d with
    | link source =>
      dsimp only
      rw [he] at hnames hstays
      split
      · exact ⟨rfl, fun _ => rfl⟩
      next hsource =>
        refine ⟨?_, hstays⟩
        change (s.reformat t f).exists source = true
        rw [State.reformat_exists]
        split
        next ht => simpa using fun hle => hsource ⟨ht, hle⟩
        · exact hnames
    | force v =>
      rw [he] at hstays
      dsimp only
      split <;> exact ⟨rfl, fun h => nomatch hstays h⟩
    | opened => exact ⟨rfl, fun _ => rfl⟩
    | hold => exact ⟨rfl, fun h => absurd (he ▸ hstays h) (by simp)⟩
    | play => exact ⟨rfl, fun h => absurd (he ▸ hstays h) (by simp)⟩

theorem keeps_slotLaw {s u : State} (h : Move s u) (hs : s.SlotLaw) : u.SlotLaw := by
  rw [State.slotLaw_iff] at *
  have hchanges : ∀ d e, s.ChangeExists d e → s.EntryExists d e := fun d e ⟨hd, he⟩ => ⟨he, fun hn => by simp [hd] at hn⟩
  obtain ⟨t, f, rfl, -, -, hnames⟩ | ⟨hformat, hu⟩ :=
    h.entries hchanges (fun d => ⟨rfl, fun _ => rfl⟩) hs fun d e hd he _ => ⟨hd, he⟩
  · refine ⟨fun d => State.reformat_entryExists (hs.1 d), fun c hc => ?_⟩
    obtain ⟨hd, hsource⟩ := Change.names_eq_false (hnames c hc)
    obtain ⟨hexists, hnamed⟩ := hs.2 c hc
    refine ⟨by rwa [State.reformat_exists, if_neg hd], ?_⟩
    rw [State.namesExisting_congr (s := s) fun source he => by rw [State.reformat_exists, if_neg (hsource source he)]]
    exact hnamed
  · have hexists := State.exists_congr hformat
    have hnames (e : MapEntry) := State.namesExisting_congr (e := e) fun source _ => hexists source
    have hentry : u.EntryExists = s.EntryExists := by
      funext d e
      simp only [State.EntryExists, hexists, hnames]
    have hchange : u.ChangeExists = s.ChangeExists := by
      funext d e
      simp only [State.ChangeExists, hexists, hnames]
    rwa [hentry, hchange]

theorem State.resetBy_slotLaw (s : State) (kind : ResetKind) : (s.resetBy kind).SlotLaw := State.slotLaw_iff.mpr
  ⟨fun d => by rw [State.entry_resetBy]; exact ⟨rfl, fun _ => rfl⟩, fun _ hc => absurd hc List.not_mem_nil⟩

theorem kept_slotLaw : Kept State.SlotLaw where
  move _ _ := keeps_slotLaw
  link _ _ h := h
  pending _ _ h := h
  reset s kind _ := s.resetBy_slotLaw kind

/-! ### The law of values -/

/-- A trunk's part of the law of values (R8, R84). -/
abbrev Trunk.Valued (k : Trunk) : Prop :=
  k.format.width.holds k.format.idle = true ∧
    (∀ d : SlotId, ∀ v ∈ k.tx.lastSent[d], k.format.width.holds v = true) ∧
    (k.tx.state = .held → ∀ d : SlotId, k.tx.lastSent[d] = none) ∧
    (∀ f ∈ k.store.frames, ∀ v ∈ f.values, k.format.width.holds v = true) ∧
    ∀ line ∈ k.tx.line, ∀ x ∈ line.slots, ∀ v ∈ x, line.width.holds v = true

theorem Transmit.reset_lastSent (d : SlotId) : Transmit.reset.lastSent[d] = none := Vector.getElem_replicate d.isLt

theorem Transmit.not_mem_reset_lastSent (d : SlotId) (v : Value) : v ∉ Transmit.reset.lastSent[d] := fun h =>
  nomatch (Transmit.reset_lastSent d).symm.trans h

/-- The values of a frame that completes are received values and the idle value (R22). -/
theorem Trunk.frameValues_holds {k : Trunk} (hidle : k.format.width.holds k.format.idle = true) (line : LineBits) :
    ∀ v ∈ k.frameValues line, k.format.width.holds v = true := by
  intro v hv
  obtain ⟨d, -, rfl⟩ := List.mem_map.mp hv
  split
  · exact receivedValue_holds ..
  · exact hidle

theorem TrunkMove.valued {s : State} {t : TrunkId} {k : Trunk} (h : TrunkMove s t k) (hs : s.ValueLaw) : k.Valued := by
  have ⟨hidle, hlast, hheld, hframes, hline⟩ := hs.1 t
  cases h with
  | frame n line =>
    refine ⟨hidle, hlast, hheld, fun f hf => ?_, hline⟩
    obtain ⟨m, hm⟩ := (s.trunk t).store.push_frames ((s.trunk t).frameValues line)
    dsimp only at hf
    rw [hm] at hf
    obtain hf | hf := List.mem_append.mp hf
    · exact hframes f (List.mem_of_mem_drop hf)
    · rw [List.mem_singleton.mp hf]
      exact Trunk.frameValues_holds hidle line
  | run hheld' =>
    exact ⟨hidle, fun d v hv => absurd hv (Transmit.not_mem_reset_lastSent d v), fun h => (nomatch h), hframes, fun _ h => nomatch h⟩
  | sent d v hrun hholds =>
    refine ⟨hidle, fun d' v' hv' => ?_, fun h => absurd (hrun.symm.trans h) (by simp), hframes, hline⟩
    simp only [Fin.getElem_fin, Vector.getElem_set] at hv'
    split at hv'
    · obtain rfl := Option.some.inj hv'
      exact hholds hs
    · exact hlast d' v' hv'
  | line l hwidth hsent =>
    refine ⟨hidle, hlast, hheld, hframes, fun l' hl' x hx v hv => ?_⟩
    obtain rfl := Option.some.inj hl'
    obtain ⟨d, hd⟩ := hsent x hx v hv
    rw [hwidth]
    exact hlast d v hd
  | _ => exact ⟨hidle, hlast, hheld, hframes, hline⟩

theorem Move.valued {s u : State} (h : Move s u) (hstore : s.StoreLaw) (hs : s.ValueLaw) (t : TrunkId) : (u.trunk t).Valued := by
  have ⟨hidle, hlast, hheld, hframes, hline⟩ := hs.1 t
  refine h.trunk_cases (P := Trunk.Valued) t (fun k hk => hk.valued hs)
    (fun rx _ => ⟨hidle, hlast, hheld, fun _ hf => absurd hf List.not_mem_nil, hline⟩)
    ⟨hidle, fun d v hv => absurd hv (Transmit.not_mem_reset_lastSent d v), fun h => (nomatch h), hframes, fun _ h => nomatch h⟩
    ⟨hidle, fun d v hv => absurd hv (Transmit.not_mem_reset_lastSent d v), fun _ => Transmit.reset_lastSent, hframes, fun _ h => nomatch h⟩
    fun f _ _ hidle' hrx htx => ⟨hidle', fun d v hv => ?_, hheld, fun f hf => ?_, hline⟩
  · exact absurd hv (by simp [Trunk.reformatted, hheld htx d])
  · have hempty : (s.trunk t).store = .empty := (hstore.1 t).1 (by simp [hrx])
    exact absurd (show f ∈ (s.trunk t).store.frames from hf) (by simp [hempty, FrameStore.empty])

/-- Whether an entry of a destination fits the width of its trunk (R8). -/
def State.EntryFits (s : State) (d : FullSlot) (e : MapEntry) : Prop := e.fits (s.trunk d.trunk).format.width = true

theorem State.reformat_entryFits {s : State} {t : TrunkId} {f : Format} {d : FullSlot} (h : s.EntryFits d (s.entry d)) :
    (s.reformat t f).EntryFits d ((s.reformat t f).entry d) := by
  rw [State.entry_reformat, State.EntryFits, State.reformat_trunk]
  rw [State.EntryFits] at h
  by_cases hgone : d.trunk = t ∧ f.length ≤ d.slot.val
  · rw [reformatEntry.eq_def, if_pos hgone]
    rfl
  · rw [reformatEntry.eq_def, if_neg hgone]
    cases he : s.entry d with
    | link source => dsimp only; split <;> split <;> rfl
    | force v =>
      rw [he] at h
      dsimp only
      by_cases ht : d.trunk = t
      · rw [if_pos ht, if_pos ht]
        exact convert_holds _ _ v (ht ▸ h)
      · rwa [if_neg ht, if_neg ht]
    | _ => rfl

theorem keeps_entryFits {s u : State} (h : Move s u) (hs : s.Entries s.EntryFits s.EntryFits) :
    u.Entries u.EntryFits u.EntryFits := by
  obtain ⟨t, f, rfl, -, -, hnames⟩ | ⟨hformat, hu⟩ :=
    h.entries (Q := s.EntryFits) (R := s.EntryFits) (fun _ _ => id) (fun _ => rfl) hs fun d e _ _ hfits => hfits
  · refine ⟨fun d => State.reformat_entryFits (hs.1 d), fun c hc => ?_⟩
    have hd := (Change.names_eq_false (hnames c hc)).1
    rw [State.EntryFits, State.reformat_trunk, if_neg hd]
    exact hs.2 c hc
  · have hfits : u.EntryFits = s.EntryFits := by
      funext d e
      simp only [State.EntryFits, hformat]
    rwa [hfits]

theorem keeps_valueLaw {s u : State} (h : Move s u) (hstore : s.StoreLaw) (hs : s.ValueLaw) : u.ValueLaw := by
  have ⟨htrunks, hpairs, hentries⟩ := hs
  refine ⟨h.valued hstore hs, fun g t f hf => ?_, keeps_entryFits h hentries⟩
  obtain hu | hu | hu := h.snapshot g t <;> rw [hu] at hf
  · exact hpairs g t f hf
  · exact absurd hf (by simp)
  · obtain hnone | ⟨f', hmem, htaken⟩ := (s.pair g t).select_snapshot (s.trunk t)
    · simp [hnone] at hf
    · obtain rfl := Option.some.inj (htaken.symm.trans hf)
      exact (htrunks t).2.2.2.1 f' hmem

theorem State.resetBy_valueLaw (s : State) (kind : ResetKind) : (s.resetBy kind).ValueLaw := by
  refine ⟨fun t => ?_, fun g t f hf => ?_, fun d => ?_, fun _ hc => absurd hc List.not_mem_nil⟩
  · rw [State.trunk_resetBy]
    refine ⟨by decide, fun d v hv => ?_, fun _ d => ?_, fun _ hf => absurd hf List.not_mem_nil, fun _ h => nomatch h⟩
    · exact absurd hv (Transmit.not_mem_reset_lastSent d v)
    · exact Transmit.reset_lastSent d
  · simp [Pair.reset] at hf
  · rw [State.entry_resetBy]
    rfl

theorem kept_valueLaw : Kept fun s => (s.MaskLaw ∧ s.StoreLaw) ∧ s.ValueLaw where
  move _ _ h hs := ⟨kept_storeLaw.move _ _ h hs.1, keeps_valueLaw h hs.1.2 hs.2⟩
  link _ _ h := h
  pending _ _ h := h
  reset s kind _ := ⟨⟨s.resetBy_maskLaw kind, s.resetBy_storeLaw kind⟩, s.resetBy_valueLaw kind⟩

/-- Settles O59: a stored value is received or idle, a sent one was read within its width, and FORMAT brings what names a
trunk to its new length and width. -/
theorem stepKeepsStoresAndSlots : Obligations.StepKeepsStoresAndSlots :=
  ⟨fun _ _ hmask hs h => (kept_storeLaw.step h ⟨hmask, hs⟩).2, fun _ _ hs h => kept_slotLaw.step h hs,
    fun _ _ hs h => kept_maskLaw.step h hs, fun _ _ hmask hstore hs h => (kept_valueLaw.step h ⟨⟨hmask, hstore⟩, hs⟩).2⟩

end Sys2Proof.Machine
end

section
/-! SUPPORT and PROOFS. Steps, resets and the outgoing queue (R146, R147, R154, R163, R165 to R168): every command answers, a
row that stands for a request is its serving, and what the end of an event does by what the queue holds. -/

namespace Sys2Proof.Machine

/-! ### Commands by form -/

/-- MESSAGE_COMPLETE as an event (R160). -/
def State.dueMessage (s : State) : State :=
  match s.link.completed with
  | some m => s.completeMessage m
  | none => s

theorem exec_messageComplete (s : State) :
    exec .messageComplete s = followOn (fun s => s.link.completed.isSome) State.dueMessage s := rfl

/-- The forms of a command. -/
inductive Form (i : Instr) : Prop where
  /-- A request. -/
  | request (handler : Handler) (h : ∀ s, exec i s = taken i handler s) (hsome : encodeRequest i ≠ none)
  /-- An event that stands for no request. -/
  | event (body : State → State) (hnone : encodeRequest i = none) (h : ∀ s, exec i s = Machine.event body s)
  /-- An event that follows at once on another. -/
  | followOn (due : State → Bool) (body : State → State)
      (hi : i = .tapRunEnd ∨ i = .messageComplete ∨ i = .interByteTimeout) (h : ∀ s, exec i s = Machine.followOn due body s)
  /-- A row that names none of the cases of R163. -/
  | idle (hw : i.wellFormed = false) (h : ∀ s, exec i s = .next s)
  /-- A reset. -/
  | reset (kind : ResetKind) (hi : i = .powerOn ∨ i = .resetInputAsserted) (h : ∀ s, exec i s = .next (s.resetBy kind))
  /-- Start-up. -/
  | startUp (strap : Bool) (hi : i = .startUp strap)

theorem exec_form (i : Instr) : Form i := by
  cases i with
  | unknownCommand code payload =>
    cases hknown : knownCode code with
    | true => exact .idle (by simp [Instr.wellFormed, hknown]) fun s => if_pos hknown
    | false => exact .request (refuse .unknownCommand) (fun s => if_neg (by simp [hknown])) nofun
  | payloadSizeWrong code payload =>
    cases hwrong : knownCode code && !payloadSizeRight code payload with
    | true => exact .request (refuse .badLength) (fun s => if_pos hwrong) nofun
    | false => exact .idle (by rw [Instr.wellFormed, hwrong, Bool.false_and]) fun s => if_neg (by simp [hwrong])
  | huntMarker t position => exact .event _ rfl (exec_huntMarker t position)
  | receiveFrameEnd t time marker line => exact .event _ rfl (exec_receiveFrameEnd t time marker line)
  | lossOfAlignment t time => exact .event _ rfl (exec_lossOfAlignment t time)
  | groupBoundary g => exact .event _ rfl (exec_groupBoundary g)
  | generatorBoundary g => exact .event _ rfl (exec_generatorBoundary g)
  | transmitFrameStart t => exact .event _ rfl (exec_transmitFrameStart t)
  | millisecondStep => exact .event _ rfl exec_millisecondStep
  | graceExpiry g => exact .event _ rfl (exec_graceExpiry g)
  | linkByteArrival b parity framing overrun => exact .event _ rfl (exec_linkByteArrival b parity framing overrun)
  | messageSent strap => exact .event _ rfl (exec_messageSent strap)
  | tapRunEnd => exact .followOn State.tapEndDue State.endTapRun (.inl rfl) fun _ => rfl
  | messageComplete => exact .followOn _ _ (.inr (.inl rfl)) exec_messageComplete
  | interByteTimeout => exact .followOn State.timeoutDue State.timeOut (.inr (.inr rfl)) fun _ => rfl
  | powerOn => exact .reset .power (.inl rfl) fun _ => rfl
  | resetInputAsserted => exact .reset .line (.inr rfl) fun _ => rfl
  | startUp strap => exact .startUp strap rfl
  | _ => exact .request _ (fun _ => rfl) nofun

/-- A row that stands for a request serves that request. -/
theorem exec_eq_serve {i : Instr} {r : Request} (hw : i.wellFormed = true) (hr : encodeRequest i = some r) :
    ∃ handler : Handler, ∀ s, exec i s = serve r handler s := by
  cases exec_form i with
  | request handler h => exact ⟨handler, fun s => by rw [h, taken, hr]⟩
  | event body hnone => exact absurd (hnone.symm.trans hr) (by simp)
  | followOn due body hi => obtain rfl | rfl | rfl := hi <;> exact nomatch hr
  | idle hidle => exact absurd (hidle.symm.trans hw) (by simp)
  | reset kind hi => obtain rfl | rfl := hi <;> exact nomatch hr
  | startUp strap hi => subst hi; exact nomatch hr

/-! ### Every command answers -/

theorem event_answers (body : State → State) (s : State) : ∃ t, event body s = .next t := by
  unfold event
  split <;> exact ⟨_, rfl⟩

theorem exec_startUp_answers (strap : Bool) (s : State) : ∃ t, exec (.startUp strap) s = .next t := by
  change ∃ t, execStartUp strap s = .next t
  unfold execStartUp
  split <;> exact ⟨_, rfl⟩

theorem exec_answers (i : Instr) (s : State) : ∃ t, exec i s = .next t := by
  cases exec_form i with
  | request handler h =>
    rw [h, taken]
    split
    · exact event_answers _ s
    · exact ⟨_, rfl⟩
  | event body _ h =>
    rw [h]
    exact event_answers body s
  | followOn due body _ h =>
    rw [h, followOn]
    split <;> exact ⟨_, rfl⟩
  | idle _ h => exact ⟨s, h s⟩
  | reset kind _ h => exact ⟨_, h s⟩
  | startUp strap hi => subst hi; exact exec_startUp_answers strap s

/-- No move touches the queue of commands, and the clock never runs back. -/
theorem Move.pending_now {s u : State} (h : Move s u) : u.pending = s.pending ∧ s.now ≤ u.now := by
  cases h with
  | outside u heq _ _ _ _ _ hnow => exact ⟨by rw [heq], hnow⟩
  | halt t => simp
  | clearForced t =>
    obtain ⟨m, h⟩ := s.clearForced_state t
    rw [h]
    exact ⟨rfl, le_rfl⟩
  | stage d e =>
    obtain ⟨c, h⟩ := stageEntry_state d e s
    rw [h]
    exact ⟨rfl, le_rfl⟩
  | apply p => simp
  | commit => simp [State.putInFlight]
  | finish => simp
  | _ => exact ⟨rfl, le_rfl⟩

theorem State.Moves.pending_now {s u : State} (h : s.Moves u) : u.pending = s.pending ∧ s.now ≤ u.now :=
  h.keeps (P := fun v => v.pending = s.pending ∧ s.now ≤ v.now)
    (fun _ _ hmove ⟨hpending, hnow⟩ => ⟨hmove.pending_now.1.trans hpending, hnow.trans hmove.pending_now.2⟩) ⟨rfl, le_rfl⟩

theorem State.startUpAfter_pending_now (s : State) (kind : ResetKind) (strap : Bool) :
    (s.startUpAfter kind strap).pending = s.pending ∧ (s.startUpAfter kind strap).now = s.now := by
  simp [State.startUpAfter, State.enqueue]

theorem Event.pending_now {s t : State} (h : Event s t) : t.pending = s.pending ∧ s.now ≤ t.now := by
  have hfinish : ∀ u : State, u.pending = s.pending ∧ s.now ≤ u.now → u.finish.pending = s.pending ∧ s.now ≤ u.finish.now :=
    fun u hu => by simpa using hu
  cases h with
  | idle => exact ⟨rfl, le_rfl⟩
  | quiet u h => exact hfinish u h.pending_now
  | answered u code payload h => exact hfinish _ h.pending_now
  | sent u m link h => exact hfinish _ h.pending_now
  | reset kind => exact ⟨rfl, le_rfl⟩
  | startUp kind strap =>
    obtain ⟨hpending, hnow⟩ := s.startUpAfter_pending_now kind strap
    exact hfinish _ ⟨hpending, hnow.ge⟩
  | restart u strap h =>
    obtain ⟨hpending, hnow⟩ := (u.resetBy .command).startUpAfter_pending_now .command strap
    exact hfinish _ ⟨hpending.trans h.pending_now.1, h.pending_now.2.trans hnow.ge⟩

/-- Settles O1: `step` is its match on the queue. -/
theorem stepRunsFrontCommand : Obligations.StepRunsFrontCommand := by
  refine ⟨fun c rest s h => ?_, fun c s => rfl, fun s h => ?_⟩
  · unfold step
    rw [h]
  · unfold step
    rw [h]

/-- Settles O2: every form of command answers, and every event keeps the queue and the order of times. -/
theorem everyCommandAnswersNext : Obligations.EveryCommandAnswersNext := by
  intro i s
  obtain ⟨t, h⟩ := exec_answers i s
  exact ⟨t, h, (exec_event h).pending_now⟩

/-! ### Resets (R154, R166, R167) -/

theorem State.resetBy_atReset (s : State) (kind : ResetKind) : (s.resetBy kind).AtReset kind :=
  ⟨fun t => s.trunk_resetBy kind t, fun g => s.group_resetBy kind g, fun g t => s.pair_resetBy kind g t,
    fun d => s.entry_resetBy kind d, rfl, rfl, rfl, rfl, rfl, rfl, rfl, rfl, rfl, rfl, rfl, rfl, rfl, rfl, rfl, rfl, rfl⟩

/-- Until start-up nothing occurs but a reset (R166). -/
theorem exec_inReset {s : State} (hreset : s.inReset = true) {i : Instr} (hpower : i ≠ .powerOn)
    (hline : i ≠ .resetInputAsserted) (hstart : ∀ strap, i ≠ .startUp strap) : exec i s = .next s := by
  cases exec_form i with
  | request handler h =>
    rw [h, taken]
    split
    · exact event_inReset hreset _
    · rfl
  | event body _ h =>
    rw [h]
    exact event_inReset hreset body
  | followOn due body _ h =>
    rw [h, followOn, hreset]
    rfl
  | idle _ h => exact h s
  | reset kind hi => exact hi.elim (absurd · hpower) (absurd · hline)
  | startUp strap hi => exact absurd hi (hstart strap)

/-- Settles O3: `resetBy` sets every item, and until start-up no event occurs. -/
theorem resetsTakeEffect : Obligations.ResetsTakeEffect := by
  refine ⟨⟨State.reset.resetBy_atReset .power, rfl, rfl⟩, fun s => ⟨⟨_, rfl, s.resetBy_atReset .power⟩, _, rfl,
    s.resetBy_atReset .line⟩, fun i s kind hphase => exec_inReset ?_⟩
  rw [State.inReset, hphase]

end Sys2Proof.Machine
end

section
/-! SUPPORT and PROOFS. The end of an event and the sending of messages (R146, R147, R154, R163, R165, R167, R168): what
`finish` does by what the queue holds, and the requests that wait or are dropped. -/

namespace Sys2Proof.Machine

/-! ### The end of an event by what the queue holds -/

theorem OutMessage.isWaitingNotice_iff {m : OutMessage} : m.isWaitingNotice = true ↔ m = .attention none := by
  cases m with
  | attention content => cases content <;> simp [OutMessage.isWaitingNotice]
  | _ => simp [OutMessage.isWaitingNotice]

theorem any_isWaitingNotice_iff {ms : List OutMessage} :
    ms.any OutMessage.isWaitingNotice = true ↔ .attention none ∈ ms := by
  simp [OutMessage.isWaitingNotice_iff]

/-- A notice asked for that does not wait yet joins the queue. -/
theorem State.queueNotice_of_asked {s : State} (hw : s.attention.noticeWaiting = true) (hn : .attention none ∉ s.link.outgoing) :
    s.queueNotice = { s with link := { s.link with outgoing := s.link.outgoing ++ [.attention none] } } := by
  rw [State.queueNotice, if_pos]
  · rfl
  · rw [hw, Bool.true_and, Bool.not_eq_true', Bool.eq_false_iff, ne_eq, any_isWaitingNotice_iff]
    exact hn

theorem State.queueNotice_of_quiet {s : State} (h : s.attention.noticeWaiting = false ∨ .attention none ∈ s.link.outgoing) :
    s.queueNotice = s := by
  refine if_neg ?_
  rw [Bool.and_eq_true, Bool.not_eq_true']
  rintro ⟨hw, hn⟩
  obtain h | h := h
  · exact absurd (h.symm.trans hw) (by simp)
  · exact absurd (hn.symm.trans (any_isWaitingNotice_iff.mpr h)) (by simp)

theorem State.beginSending_of_notice {s : State} {rest : List OutMessage} (h : s.link.outgoing = .attention none :: rest) :
    s.beginSending =
      { s with
        attention := { s.attention with noticeWaiting := false }
        link := { s.link with outgoing := .attention (some s.attention.report) :: rest } } := by
  rw [State.beginSending, h]

theorem State.beginSending_of_other {s : State} (h : s.link.outgoing.head? ≠ some (.attention none)) : s.beginSending = s := by
  unfold State.beginSending
  split
  next rest hout => exact absurd (by rw [hout]; rfl) h
  · rfl

/-- A notice asked for while nothing is in the queue is sent. -/
theorem State.finish_of_asked_of_nil {u : State} (hw : u.attention.noticeWaiting = true) (hout : u.link.outgoing = []) :
    u.finish =
      { u with
        attention := { u.attention with noticeWaiting := false }
        link := { u.link with outgoing := [.attention (some u.attention.report)] } } := by
  rw [State.finish, State.queueNotice_of_asked hw (by simp [hout]), State.beginSending_of_notice (rest := []) (by rw [hout]; rfl)]

/-- A notice asked for while something else is in the queue waits. -/
theorem State.finish_of_asked_of_ne_nil {u : State} (hw : u.attention.noticeWaiting = true) (hout : u.link.outgoing ≠ [])
    (hn : .attention none ∉ u.link.outgoing) :
    u.finish = { u with link := { u.link with outgoing := u.link.outgoing ++ [.attention none] } } := by
  rw [State.finish, State.queueNotice_of_asked hw hn, State.beginSending_of_other]
  cases hms : u.link.outgoing with
  | nil => exact absurd hms hout
  | cons m ms =>
    intro h
    have hm : m = .attention none := Option.some.inj h
    exact hn (by simp [hms, hm])

/-- A waiting notice at the head is sent. -/
theorem State.finish_of_notice {u : State} {rest : List OutMessage} (hout : u.link.outgoing = .attention none :: rest) :
    u.finish =
      { u with
        attention := { u.attention with noticeWaiting := false }
        link := { u.link with outgoing := .attention (some u.attention.report) :: rest } } := by
  rw [State.finish, State.queueNotice_of_quiet (.inr (by simp [hout])), State.beginSending_of_notice hout]

/-- Where nothing is asked for, or the notice waits already behind another message, the event's end does nothing. -/
theorem State.finish_of_quiet {u : State} (hhead : u.link.outgoing.head? ≠ some (.attention none))
    (h : u.attention.noticeWaiting = false ∨ .attention none ∈ u.link.outgoing) : u.finish = u := by
  rw [State.finish, State.queueNotice_of_quiet h, State.beginSending_of_other hhead]

theorem State.OutgoingLaw.waiting_iff {s : State} (h : s.OutgoingLaw) :
    s.attention.noticeWaiting = true ↔ .attention none ∈ s.link.outgoing := by
  obtain ⟨-, -, hcount⟩ := h
  rw [← any_isWaitingNotice_iff]
  cases hw : s.attention.noticeWaiting with
  | true =>
    rw [hw, if_pos rfl] at hcount
    have hpos : 0 < s.link.outgoing.countP OutMessage.isWaitingNotice := by omega
    simpa using List.countP_pos_iff.mp hpos
  | false =>
    rw [hw] at hcount
    simpa using List.countP_eq_zero.mp hcount

/-- Where the law of the outgoing queue holds, nothing is left to do at the end of an event. -/
theorem State.OutgoingLaw.finish {s : State} (h : s.OutgoingLaw) : s.finish = s := by
  refine State.finish_of_quiet (fun hhead => ?_) ?_
  · have hnot := h.2.1
    rw [hhead] at hnot
    exact absurd hnot (by decide)
  · cases hw : s.attention.noticeWaiting with
    | true => exact .inr (h.waiting_iff.mp hw)
    | false => exact .inl rfl

/-! ### Several raisings of one event -/

theorem foldl_raise (rs : List Raising) (s : State) :
    rs.foldl (fun u r => u.raise r) s = { s with attention := rs.foldl (fun a r => a.raise r) s.attention } := by
  induction rs generalizing s with
  | nil => rfl
  | cons r rs ih => exact ih (s.raise r)

theorem Attention.raise_noticeWaiting {a : Attention} {r : Raising} :
    (a.raise r).noticeWaiting = true ↔
      a.noticeWaiting = true ∨ (a.mask.getLsbD r.source.val = true ∧ a.flags.getLsbD r.source.val = false) := by
  simp [Attention.raise, and_comm]

@[simp] theorem Attention.raise_mask (a : Attention) (r : Raising) : (a.raise r).mask = a.mask := by cases r <;> rfl

/-- Raisings ask for a notice exactly when one of them makes its source pending. -/
theorem foldl_raise_noticeWaiting (rs : List Raising) (a : Attention) :
    (rs.foldl (fun a r => a.raise r) a).noticeWaiting = true ↔
      a.noticeWaiting = true ∨
        ∃ r ∈ rs, a.mask.getLsbD r.source.val = true ∧ a.flags.getLsbD r.source.val = false := by
  induction rs generalizing a with
  | nil => simp
  | cons r rs ih =>
    have hflags (r' : Raising) : (a.raise r).flags.getLsbD r'.source.val = false ↔
        a.flags.getLsbD r'.source.val = false ∧ r'.source ≠ r.source := by
      rw [Attention.raise_getLsbD]
      simp
    rw [List.foldl_cons, ih, Attention.raise_noticeWaiting, or_assoc]
    simp only [Attention.raise_mask, List.exists_mem_cons_iff, hflags]
    refine or_congr_right ⟨Or.imp_right fun ⟨r', hr', hm, hf, _⟩ => ⟨r', hr', hm, hf⟩, fun h => ?_⟩
    obtain h | ⟨r', hr', hm, hf⟩ := h
    · exact .inl h
    · by_cases heq : r'.source = r.source
      · exact .inl (heq ▸ ⟨hm, hf⟩)
      · exact .inr ⟨r', hr', hm, hf, heq⟩

theorem foldl_raise_mono (rs : List Raising) {a : Attention} (h : a.noticeWaiting = true) :
    (rs.foldl (fun a r => a.raise r) a).noticeWaiting = true := (foldl_raise_noticeWaiting rs a).mpr (.inl h)

/-- Of a state in order, raisings bring one notice at most. -/
theorem finish_of_raised {s : State} (hs : s.OutgoingLaw) {a : Attention}
    (hmono : s.attention.noticeWaiting = true → a.noticeWaiting = true) :
    State.finish { s with attention := a } =
      if s.attention.noticeWaiting = a.noticeWaiting then { s with attention := a }
      else if s.link.outgoing = [] then
        { s with
          attention := { a with noticeWaiting := false }
          link := { s.link with outgoing := [.attention (some a.report)] } }
      else
        { s with
          attention := a
          link := { s.link with outgoing := s.link.outgoing ++ [.attention none] } } := by
  split
  next heq =>
    obtain ⟨hreply, hhead, hcount⟩ := hs
    exact State.OutgoingLaw.finish (s := { s with attention := a }) ⟨hreply, hhead, heq ▸ hcount⟩
  next hne =>
    have ha : a.noticeWaiting = true := by
      cases ha : a.noticeWaiting with
      | true => rfl
      | false => exact absurd (Bool.eq_false_iff.mpr fun h => by simp [hmono h] at ha) (ha ▸ hne)
    have hn : .attention none ∉ s.link.outgoing := fun h => hne ((hs.waiting_iff.mpr h).trans ha.symm)
    split
    next hnil => exact State.finish_of_asked_of_nil (u := { s with attention := a }) ha hnil
    next hnil => exact State.finish_of_asked_of_ne_nil (u := { s with attention := a }) ha hnil hn

/-! ### MESSAGE_SENT and RESTART (R165, R167, R168) -/

theorem State.messageSent_of_other {s : State} {m : OutMessage} {rest : List OutMessage} (hout : s.link.outgoing = m :: rest)
    (h : ¬(s.link.phase = .restarting ∧ m = .reply 0x02#8 [0x00#8])) (strap : Bool) :
    s.messageSent strap =
      { s with link := { s.link with
          outgoing := rest
          phase := if s.link.phase = .startUp ∧ m.isReady = true then .operating else s.link.phase } } := by
  unfold State.messageSent
  rw [hout]
  exact if_neg h

theorem exec_messageSent_of_other {s : State} {m : OutMessage} {rest : List OutMessage} (hs : s.Settled)
    (hout : s.link.outgoing = m :: rest) (h : ¬(s.link.phase = .restarting ∧ m = .reply 0x02#8 [0x00#8])) (strap : Bool) :
    exec (.messageSent strap) s = .next (State.finish
      { s with link := { s.link with
          outgoing := rest
          phase := if s.link.phase = .startUp ∧ m.isReady = true then .operating else s.link.phase } }) := by
  rw [exec_messageSent, event_of_settled hs, State.messageSent_of_other hout h]

/-- The end of the reply to RESTART: the reset takes effect, and start-up follows at once (R168). -/
theorem exec_messageSent_of_restart {s : State} {rest : List OutMessage} (hs : s.Settled) (hphase : s.link.phase = .restarting)
    (hout : s.link.outgoing = .reply 0x02#8 [0x00#8] :: rest) (strap : Bool) :
    exec (.messageSent strap) s = .next ((s.resetBy .command).startUpAfter .command strap).finish := by
  have hsent : s.messageSent strap = (s.resetBy .command).startUpAfter .command strap := by
    unfold State.messageSent
    rw [hout]
    exact if_pos ⟨hphase, rfl⟩
  rw [exec_messageSent, event_of_settled hs, hsent]

/-- Settles O5: the two cases of MESSAGE_SENT, and RESTART's handler. -/
theorem messageSentAndRestart : Obligations.MessageSentAndRestart :=
  ⟨fun _ strap _ _ hs hout h => exec_messageSent_of_other hs hout h strap,
    fun _ h => taken_ok_of_ready (i := .restart) (handler := handleRestart) rfl h rfl⟩

/-- Settles O6: the end of an event by what the queue holds, and raisings folded. -/
theorem endOfEventQueuesAndSends : Obligations.EndOfEventQueuesAndSends := by
  refine ⟨fun s h => h.finish, fun u => ⟨fun hw hout => State.finish_of_asked_of_nil hw hout,
    fun hw hout hn => State.finish_of_asked_of_ne_nil hw hout hn, fun rest hout => State.finish_of_notice hout,
    fun hhead h => State.finish_of_quiet hhead h⟩, fun s rs => ⟨foldl_raise rs s, foldl_raise_noticeWaiting rs s.attention,
    fun hs => finish_of_raised hs (foldl_raise_mono rs)⟩, fun s strap m rest hs hout h => ?_⟩
  rw [exec_messageSent_of_other hs hout h, State.finish_of_notice (rest := rest) rfl]
  rfl

/-! ### Start-up (R154, R167) -/

/-- The START record of a start-up: a log that was full drops its oldest record and raises LOG_WRAP, whose notice waits
behind READY. -/
theorem exec_startUp_of_reset {s : State} {kind : ResetKind} (hs : s.AtReset kind) (hlog : s.log.records.length ≤ 16) (strap : Bool) :
    exec (.startUp strap) s = .next
      { s with
        log := {
          records := s.log.records.drop (s.log.records.length - 15) ++
            [{ seq := s.log.next, event := .start kind, time := 0#32 }]
          next := s.log.next + 1#16 }
        attention :=
          if s.log.records.length = 16 then { s.attention with flags := 0x800#12, noticeWaiting := true }
          else s.attention
        link := { s.link with
          phase := .startUp
          rate := if strap then .baud921600 else .baud115200
          outgoing := .ready kind :: if s.log.records.length = 16 then [.attention none] else [] } } := by
  obtain ⟨-, -, -, -, -, -, -, -, -, -, hattention, huptime, hphase, -, -, -, hout, -⟩ := hs
  have hexec : exec (.startUp strap) s = .next (s.startUpAfter kind strap).finish := by
    change execStartUp strap s = _
    rw [execStartUp, hphase]
  have hrate : LineRate.ofStrap strap = if strap then .baud921600 else .baud115200 := by cases strap <;> rfl
  rw [hexec, State.startUpAfter, State.writeRecord_eq]
  simp only [State.enqueue, hout, huptime, hrate, List.nil_append]
  by_cases hfull : s.log.records.length = 16
  · have hroom : ¬s.log.records.length < Config.logCapacity := by rw [hfull]; decide
    have hraise : s.attention.raise .logWrap = { s.attention with flags := 0x800#12, noticeWaiting := true } := by
      rw [hattention]
      rfl
    rw [if_neg hroom, if_neg hroom, if_pos hfull, if_pos hfull, hraise, State.finish_of_asked_of_ne_nil rfl (by simp) (by simp),
      hfull]
    rfl
  · have hroom : s.log.records.length < Config.logCapacity := lt_of_le_of_ne hlog hfull
    have hnone : s.log.records.length - 15 = 0 := by omega
    rw [if_pos hroom, if_pos hroom, if_neg hfull, if_neg hfull, hnone, List.drop_zero,
      State.finish_of_quiet (by simp) (.inl (by rw [hattention]))]

/-- Settles O4: each reset's log is `resetBy`'s, and start-up writes the START record. -/
theorem faultLogAcrossResets : Obligations.FaultLogAcrossResets :=
  ⟨fun _ => ⟨⟨_, rfl, rfl⟩, _, rfl, rfl⟩,
    fun s strap _ hs hphase hout => ⟨s.resetBy .command, s.resetBy_atReset .command, rfl,
      exec_messageSent_of_restart hs hphase hout strap⟩,
    fun _ _ strap hs hlog => exec_startUp_of_reset hs hlog strap⟩

/-! ### Requests that are not taken at once (R160, R161, R163) -/

theorem satAdd_one_16 (v : BitVec 16) : satAdd v 1 = if v = 0xFFFF#16 then 0xFFFF#16 else v + 1#16 := by
  unfold satAdd
  split
  next h => rw [h]; rfl
  next h => bv_omega

theorem satAdd_one_8 (v : BitVec 8) : satAdd v 1 = if v = 0xFF#8 then 0xFF#8 else v + 1#8 := by
  unfold satAdd
  split
  next h => rw [h]; rfl
  next h => bv_omega

/-- Settles O7: the request is in the buffer, and the reply before it keeps it there. -/
theorem requestWaits : Obligations.RequestWaits := by
  intro i r s hw hr hs hlaw hphase hbuffer hwait
  obtain ⟨handler, h⟩ := exec_eq_serve hw hr
  have hoffer : (if s.link.requestBuffer = some r then s else s.offerRequest r) = s.buffered r := by
    obtain hb | hb := hbuffer
    · simp [hb, State.offerRequest, hphase, State.buffered]
    · rw [if_pos hb, State.buffered, ← hb]
  have hwaits : ¬((s.buffered r).link.requestBuffer = some r ∧ (s.buffered r).replyWaiting = false) := fun ⟨_, hn⟩ =>
    absurd (hwait.symm.trans hn) (by simp)
  have hfinish : (s.buffered r).finish = s.buffered r := State.OutgoingLaw.finish hlaw
  rw [h, serve, event_of_settled hs]
  dsimp only
  rw [hoffer, if_neg hwaits, hfinish]
  rfl

/-- Settles O8: a request that is not offered room is discarded, and not taken. -/
theorem busyRequestDropped : Obligations.BusyRequestDropped := by
  refine ⟨fun i r s hw hr hs hother hbusy => ?_, fun s k => ?_⟩
  · obtain ⟨handler, h⟩ := exec_eq_serve hw hr
    have hoffer : s.offerRequest r = s.discardMessage .busyDrop := if_neg fun ⟨hphase, hnone⟩ =>
      hbusy.elim (absurd hphase) (absurd hnone)
    have hkept : ¬((s.discardMessage .busyDrop).link.requestBuffer = some r ∧
        (s.discardMessage .busyDrop).replyWaiting = false) := fun ⟨hb, _⟩ => hother hb
    rw [h, serve, event_of_settled hs]
    dsimp only
    rw [if_neg hother, hoffer, if_neg hkept]
  · rw [State.discardMessage_eq, satAdd_one_16]

/-! ### Unknown codes and wrong sizes (R163, R172) -/

/-- The codes of R172 with their payload sizes, PLAY LOAD's apart. -/
def sizeTable : List (Nat × Nat) :=
  [(0x01, 0), (0x02, 0), (0x03, 2), (0x04, 0), (0x05, 1),
    (0x10, 6), (0x11, 2), (0x12, 1), (0x13, 1), (0x14, 1), (0x15, 1), (0x16, 7), (0x20, 9), (0x21, 2), (0x22, 1), (0x23, 1),
    (0x24, 1), (0x28, 2), (0x29, 2), (0x30, 4), (0x31, 2), (0x32, 4), (0x33, 2), (0x34, 2), (0x35, 2), (0x36, 0), (0x37, 0),
    (0x38, 0), (0x39, 2), (0x3A, 4), (0x40, 4), (0x41, 0), (0x42, 1), (0x49, 0), (0x4A, 1), (0x50, 0), (0x51, 2),
    (0x52, 2), (0x58, 1), (0x59, 0)]

theorem fixedPayloadSize_of_mem : ∀ p ∈ sizeTable, fixedPayloadSize (natByte p.1) = some p.2 := by decide

theorem mem_of_fixedPayloadSize : ∀ code : Byte, ∀ n ∈ fixedPayloadSize code, (code.toNat, n) ∈ sizeTable := by decide +kernel

theorem fixedPayloadSize_eq_some_iff {code : Byte} {n : Nat} :
    fixedPayloadSize code = some n ↔ (code.toNat, n) ∈ sizeTable := by
  refine ⟨mem_of_fixedPayloadSize code n, fun h => ?_⟩
  have hcode : natByte code.toNat = code := BitVec.eq_of_toNat_eq (by simp [natByte])
  exact hcode ▸ fixedPayloadSize_of_mem _ h

theorem knownCode_and_payloadSizeRight_iff {code : Byte} (h : code ≠ 0x48#8) (payload : List Byte) :
    knownCode code = true ∧ payloadSizeRight code payload = true ↔ (code.toNat, payload.length) ∈ sizeTable := by
  have hcode : code ≠ playLoadCode := h
  rw [← fixedPayloadSize_eq_some_iff, payloadSizeRight.eq_def, if_neg hcode, knownCode, beq_eq_false_iff_ne.mpr hcode, Bool.false_or,
    beq_iff_eq]
  exact ⟨And.right, fun h => ⟨by rw [h]; rfl, h⟩⟩

/-- Settles O9: the two rows are refusals, and the codes and sizes are those of `sizeTable`. -/
theorem linkAnswersUnknownAndBadLength : Obligations.LinkAnswersUnknownAndBadLength := by
  refine ⟨fun code payload s hcode h => ?_, fun code payload s hcode hsize h => ?_,
    fun code payload h => knownCode_and_payloadSizeRight_iff h payload, rfl, fun count rest => ⟨rfl, ?_⟩⟩
  · have hexec : exec (.unknownCommand code payload) s = taken (.unknownCommand code payload) (refuse .unknownCommand) s :=
      if_neg (by simp [hcode])
    rw [hexec]
    exact taken_refused_of_ready .unknownCommand rfl h rfl
  · have hexec : exec (.payloadSizeWrong code payload) s = taken (.payloadSizeWrong code payload) (refuse .badLength) s :=
      if_pos (by simp [hcode, hsize])
    rw [hexec]
    exact taken_refused_of_ready .badLength rfl h rfl
  · have hcode : (0x48#8 : Byte) = playLoadCode := rfl
    rw [payloadSizeRight, if_pos hcode]
    simp only [List.length_cons, beq_iff_eq]
    omega

end Sys2Proof.Machine
end

section
/-! SUPPORT and PROOFS. The receiver and the bytes of the link (R156 to R162, R171): what a byte does in each state of the
receiver, the checks of a complete message, the check byte as a remainder, and a message as levels. -/

namespace Sys2Proof.Machine

/-! ### Byte arrivals (R158, R159) -/

/-- A byte without error in each state of the receiver. -/
theorem State.goodByte_eq (s : State) (b : Byte) :
    s.goodByte b =
      match s.link.receiver.state with
      | .hunting =>
          if b = 0xA5#8 then
            { s with link := { s.link with receiver := { state := .length, held := [], expected := 0, gap := some 0 } } }
          else s
      | .length =>
          if 2 ≤ b.toNat ∧ b.toNat ≤ 202 then
            { s with link := { s.link with
                receiver := { state := .body, held := [b], expected := b.toNat, gap := some 0 } } }
          else
            State.discardMessage .length { s with link := { s.link with
                receiver := { state := .hunting, held := [], expected := 0, gap := none } } }
      | .body =>
          { s with link := { s.link with
              receiver := {
                state := if s.link.receiver.expected - 1 = 0 then .check else .body
                held := s.link.receiver.held ++ [b]
                expected := s.link.receiver.expected - 1
                gap := some 0 } } }
      | .check =>
          { s with link := { s.link with
              receiver := { state := .hunting, held := [], expected := 0, gap := none }
              completed := some (s.link.receiver.held ++ [b]) } } := by
  have hlast : s.link.receiver.expected - 1 = 0 ↔ s.link.receiver.expected ≤ 1 := by omega
  unfold State.goodByte
  dsimp only
  cases s.link.receiver.state with
  | hunting => rfl
  | length => rfl
  | body => simp only [hlast]
  | check => rfl

/-- A byte error is passed over in HUNTING, and elsewhere drops the message being received. -/
theorem State.badByte_eq (s : State) (k : DiscardKind) :
    s.badByte k =
      if s.link.receiver.state = .hunting then s
      else
        State.discardMessage k
          { s with link := { s.link with receiver := { state := .hunting, held := [], expected := 0, gap := none } } } := by
  unfold State.badByte
  cases s.link.receiver.state <;> rfl

/-- The first kind of error that a byte carries (R159). -/
theorem byteError_of_error {parity framing overrun : Bool} (h : parity = true ∨ framing = true ∨ overrun = true) :
    byteError parity framing overrun = some (if parity then .parity else if framing then .framing else .overrun) := by
  cases parity with
  | true => rfl
  | false =>
    cases framing with
    | true => rfl
    | false =>
      have hoverrun : overrun = true := by simpa using h
      rw [hoverrun]
      rfl

/-- Settles O11: the receiver's state machine, and the drop of what it holds. -/
theorem byteArrivals : Obligations.ByteArrivals := by
  refine ⟨fun s b hs => ?_, fun s b parity framing overrun hs h => ?_⟩
  · rw [exec_linkByteArrival, event_of_settled hs]
    exact congrArg (fun u : State => Host.Outcome.next u.finish) (s.goodByte_eq b)
  · rw [exec_linkByteArrival, event_of_settled hs, State.byteArrives, byteError_of_error h]
    dsimp only
    rw [State.badByte_eq]

/-! ### A complete message (R160) -/

theorem followOn_of_due {due : State → Bool} {body : State → State} {s : State} (hreset : s.inReset = false)
    (h : due s = true) : followOn due body s = .next (body s).finish := by
  rw [followOn, hreset, h]
  rfl

/-- The checks of a complete message, from its length byte to its check byte. -/
theorem State.completeMessage_eq (s : State) (len kind code check : Byte) (payload : List Byte) :
    s.completeMessage (len :: kind :: code :: payload ++ [check]) =
      let v := { s with link := { s.link with completed := none } }
      if check ≠ crc (len :: kind :: code :: payload) then v.discardMessage .check
      else if kind ≠ 0x01#8 then v.discardMessage .kind
      else if s.link.phase ≠ .operating ∨ s.link.requestBuffer ≠ none then v.discardMessage .busyDrop
      else { v with link := { v.link with requestBuffer := some ⟨code, payload⟩ } } := by
  unfold State.completeMessage
  dsimp only
  rw [List.dropLast_concat, List.getLast?_concat]
  by_cases hcheck : check = crc (len :: kind :: code :: payload)
  · rw [if_pos (congrArg some hcheck), if_neg (not_not_intro hcheck)]
    by_cases hkind : kind = 0x01#8
    · dsimp only
      rw [if_pos hkind, if_neg (not_not_intro hkind), State.offerRequest]
      by_cases hfree : s.link.phase = .operating ∧ s.link.requestBuffer = none
      · rw [if_pos hfree, if_neg (by rw [not_or, not_not, not_not]; exact hfree)]
      · rw [if_neg hfree, if_pos (by rwa [← not_and_or])]
    · rw [if_pos hkind]
      exact if_neg hkind
  · rw [if_neg (mt Option.some.inj hcheck), if_pos hcheck]

/-- Settles O12: both are follow-on events that are due. -/
theorem messageCompletesOrTimesOut : Obligations.MessageCompletesOrTimesOut := by
  refine ⟨fun s len kind code check payload hreset hcompleted => ?_, fun s n hreset hgap hn => ?_⟩
  · rw [exec_messageComplete, followOn_of_due hreset (by rw [hcompleted]; rfl), State.dueMessage, hcompleted]
    dsimp only
    rw [State.completeMessage_eq]
  · have hdue : s.timeoutDue = true := by
      rw [State.timeoutDue, hgap]
      exact decide_eq_true hn
    exact followOn_of_due (body := State.timeOut) hreset hdue

/-! ### The check byte (R157) -/

theorem crc_concat (bytes : List Byte) (b : Byte) : crc (bytes ++ [b]) = crc [crc bytes ^^^ b] := by
  simp only [crc, List.foldl_append, List.foldl_cons, List.foldl_nil, crcByte, BitVec.zero_xor]

theorem crc_singleton (b : Byte) :
    crc [b] = (List.range 8).foldl (fun r _ => if r.msb then (r <<< 1) ^^^ 0x07#8 else r <<< 1) b := by
  have hcrc : crc [b] = crcByte 0#8 b := rfl
  rw [hcrc, crcByte, BitVec.zero_xor]
  rfl

/-- A message with its own check byte behind it leaves the register at 0. -/
theorem crc_append_crc (bytes : List Byte) : crc (bytes ++ [crc bytes]) = 0#8 := by
  rw [crc_concat, BitVec.xor_self]
  decide

/-! ### Levels (R156) -/

/-- An element of lists of one length laid end to end. -/
theorem getElem?_flatMap_of_length {α β : Type} {f : α → List β} {n : Nat} (hf : ∀ a, (f a).length = n) {xs : List α} {k : Nat}
    {a : α} (hk : xs[k]? = some a) {i : Nat} (hi : i < n) : (xs.flatMap f)[n * k + i]? = (f a)[i]? := by
  induction xs generalizing k with
  | nil => simp at hk
  | cons x xs ih =>
    rw [List.flatMap_cons]
    cases k with
    | zero =>
      obtain rfl : x = a := by simpa using hk
      rw [Nat.mul_zero, Nat.zero_add, List.getElem?_append_left (by rwa [hf])]
    | succ k =>
      rw [List.getElem?_append_right (by rw [hf, Nat.mul_succ]; omega), hf,
        show n * (k + 1) + i - n = n * k + i by rw [Nat.mul_succ]; omega]
      exact ih (by simpa using hk)

theorem evenParity_eq (b : Byte) :
    evenParity b = decide (((List.range 8).countP fun n => b.getLsbD n) % 2 = 1) := by
  revert b; decide +kernel

/-- The level of each bit time of a byte. -/
theorem serialFrame_getLsbD (b : Byte) {i : Nat} (hi : i < 11) :
    (serialFrame b).getLsbD i =
      if i = 0 then !idleLevel else if i ≤ 8 then b.getLsbD (i - 1) else if i = 9 then evenParity b else idleLevel := by
  obtain rfl | hpos := Nat.eq_zero_or_pos i
  · exact serialFrame_start b
  · rw [if_neg hpos.ne']
    by_cases hdata : i ≤ 8
    · obtain ⟨n, rfl⟩ : ∃ n : Fin 8, i = n.val + 1 := ⟨⟨i - 1, by omega⟩, by simp only; omega⟩
      rw [if_pos hdata, serialFrame_data, Nat.add_sub_cancel]
    · rw [if_neg hdata]
      by_cases hparity : i = 9
      · subst hparity
        exact serialFrame_parity b
      · obtain rfl : i = 10 := by omega
        exact serialFrame_stop b

theorem State.transmitLevel_of_cons {s : State} {m : OutMessage} {rest : List OutMessage} (h : s.link.outgoing = m :: rest) (n : Nat) :
    s.transmitLevel n = (m.levels[n]?).getD idleLevel := by rw [State.transmitLevel, h]

theorem State.transmitLevel_of_byte {s : State} {m : OutMessage} {rest : List OutMessage} (h : s.link.outgoing = m :: rest)
    {k i : Nat} {b : Byte} (hb : m.bytes[k]? = some b) (hi : i < 11) :
    s.transmitLevel (11 * k + i) = (serialFrame b).getLsbD i := by
  rw [State.transmitLevel_of_cons h, OutMessage.levels,
    getElem?_flatMap_of_length (fun b => SerialFrame.levels_length _) hb hi]
  simp [SerialFrame.levels, hi]

/-- Eleven levels whose data bits are those of `b` are the arrival of `b`. -/
theorem SerialFrame.arrival_of_data {f : SerialFrame} {b : Byte} (hstart : f.getLsbD 0 = !idleLevel)
    (hdata : ∀ n : Fin 8, f.getLsbD (n.val + 1) = b.getLsbD n.val) (overrun : Bool) :
    f.arrival overrun = some (.linkByteArrival b (f.getLsbD 9 != evenParity b) (f.getLsbD 10 != idleLevel) overrun) := by
  have hb : f.extractLsb' 1 8 = b := by
    refine BitVec.eq_of_getLsbD_eq fun i hi => ?_
    rw [BitVec.getLsbD_extractLsb', decide_eq_true hi, Bool.true_and, Nat.add_comm]
    exact hdata ⟨i, hi⟩
  have hnot : ¬f.getLsbD 0 = idleLevel := by rw [hstart]; decide
  rw [SerialFrame.arrival, if_neg hnot]
  dsimp only
  rw [hb]

/-- Settles O13: the register is a fold over bytes, a message is laid out as R171 says, and a byte's eleven levels are its
serial frame. -/
theorem checkByteIsRemainder : Obligations.CheckByteIsRemainder := by
  dsimp only [Obligations.CheckByteIsRemainder]
  simp only [← evenParity_eq]
  refine ⟨⟨rfl, crc_concat, crc_singleton, crc_append_crc⟩, ⟨fun _ _ _ => rfl, fun _ _ => rfl, fun kind => ?ready, fun _ => rfl⟩,
    fun s => ⟨fun h n => ?idle, fun m rest h => ⟨fun k i b hb hi => ?level, fun n hn => ?after⟩⟩,
    fun f overrun => ⟨fun h => if_pos h, fun b hstart hdata => SerialFrame.arrival_of_data hstart hdata overrun⟩, rfl, rfl⟩
  case ready => cases kind <;> rfl
  case idle => rw [State.transmitLevel, h]
  case level => rw [State.transmitLevel_of_byte h hb hi, serialFrame_getLsbD b hi]
  case after =>
    rw [State.transmitLevel_of_cons h, List.getElem?_eq_none (by rwa [OutMessage.levels_length])]
    rfl

end Sys2Proof.Machine
end

section
/-! SUPPORT and PROOFS. FORMAT (R12 to R16): how its operands are read, its four checks, and what it makes of the masks and of
the active map. -/

namespace Sys2Proof.Machine

/-! ### Operands read back (R172) -/

@[simp] theorem yesNo?_boolByte (b : Bool) : yesNo? (boolByte b) = some b := by cases b <;> rfl

@[simp] theorem width?_byte (w : Width) : width? w.byte = some w := by cases w <;> rfl

theorem natByte_toNat {n : Nat} (h : n < 256) : (natByte n).toNat = n := by
  rw [natByte, BitVec.toNat_ofNat, Nat.mod_eq_of_lt h]

theorem yesNo?_of_le_one {b : Byte} (h : b.toNat ≤ 1) : ∃ c, yesNo? b = some c := by
  obtain rfl | rfl : b = 0#8 ∨ b = 1#8 := by bv_omega
  · exact ⟨false, rfl⟩
  · exact ⟨true, rfl⟩

theorem trunk?_eq_some {b : Byte} (h : b.toNat < 8) : ∃ t, trunk? b = some t := ⟨⟨b.toNat, h⟩, dif_pos h⟩

theorem holds_w8_iff {v : Value} : Width.w8.holds v = true ↔ v.toNat ≤ 255 := decide_eq_true_iff.trans Nat.lt_succ_iff

/-- The width operands, each with the idle values that its width holds. -/
theorem width?_holds_iff {w : Byte} {v : Value} :
    (∃ x, width? w = some x ∧ x.holds v = true) ↔ (w = 8#8 ∧ v.toNat ≤ 255) ∨ w = 16#8 := by
  constructor
  · rintro ⟨x, hx, hholds⟩
    unfold width? at hx
    split at hx
    next h =>
      obtain rfl := Option.some.inj hx
      exact .inl ⟨BitVec.eq_of_toNat_eq h, holds_w8_iff.mp hholds⟩
    next h => exact .inr (BitVec.eq_of_toNat_eq h)
    · exact nomatch hx
  · rintro (⟨rfl, hv⟩ | rfl)
    · exact ⟨.w8, rfl, holds_w8_iff.mpr hv⟩
    · exact ⟨.w16, rfl, decide_eq_true v.isLt⟩

/-! ### The checks (R13) -/

theorem Change.names_iff {t : TrunkId} {c : Change} :
    c.names t = true ↔ c.destination.trunk = t ∨ ∃ source, c.entry = .link source ∧ source.trunk = t := by
  unfold Change.names
  cases c.entry <;> simp

theorem State.tapOn_iff {s : State} {t : TrunkId} :
    s.tapOn t = true ↔ s.tap.active = true ∧ ∃ source, s.tap.source = some source ∧ source.trunk = t := by
  cases hsource : s.tap.source <;> simp [State.tapOn, hsource]

/-- Check 1: an operand out of its values. -/
theorem handleFormat_of_malformed {a l w : Byte} {idle : Value} {e : Byte}
    (h : ¬(a.toNat < 8 ∧ 2 ≤ l.toNat ∧ l.toNat ≤ 40 ∧ ((w = 8#8 ∧ idle.toNat ≤ 255) ∨ w = 16#8) ∧ e.toNat ≤ 1)) (s : State) :
    handleFormat a l w idle e s = refuse .range s := by
  unfold handleFormat
  split
  next t x keep ht hx hkeep =>
    refine if_pos fun ⟨hlow, hhigh, hholds⟩ => h ⟨?_, hlow, hhigh, width?_holds_iff.mp ⟨x, hx, hholds⟩, ?_⟩
    · exact Nat.lt_of_not_le (mt trunk?_eq_none_iff.mpr (by simp [ht]))
    · exact Nat.le_of_lt_succ (Nat.lt_of_not_le (mt yesNo?_eq_none (by simp [hkeep])))
  · rfl

/-- With every operand in its values, the other checks in order. -/
theorem handleFormat_of_formed {a l w : Byte} {idle : Value} {e : Byte} {t : TrunkId} {x : Width} {keep : Bool}
    (ht : trunk? a = some t) (hlow : 2 ≤ l.toNat) (hhigh : l.toNat ≤ 40) (hx : width? w = some x)
    (hholds : x.holds idle = true) (hkeep : yesNo? e = some keep) (s : State) :
    handleFormat a l w idle e s =
      if ¬((s.trunk t).rx.state = .held ∧ (s.trunk t).tx.state = .held) then refuse .sectionRunning s
      else if s.changes.any (Change.names t) then refuse .referencesPending s
      else if s.tapOn t then refuse .tapBusy s
      else okWith [] (s.reformat t { length := l.toNat, width := x, idle := idle, keepForced := keep }) := by
  simp only [handleFormat, ht, hx, hkeep]
  exact if_neg (not_not_intro ⟨hlow, hhigh, hholds⟩)

/-- A FORMAT that passes every check. -/
theorem handleFormat_of_free {a l w : Byte} {idle : Value} {e : Byte} {t : TrunkId} {x : Width} {keep : Bool} {s : State}
    (ht : trunk? a = some t) (hlow : 2 ≤ l.toNat) (hhigh : l.toNat ≤ 40) (hx : width? w = some x)
    (hholds : x.holds idle = true) (hkeep : yesNo? e = some keep)
    (hheld : (s.trunk t).rx.state = .held ∧ (s.trunk t).tx.state = .held) (hnames : ¬s.changes.any (Change.names t) = true)
    (htap : ¬s.tapOn t = true) :
    handleFormat a l w idle e s =
      okWith [] (s.reformat t { length := l.toNat, width := x, idle := idle, keepForced := keep }) := by
  rw [handleFormat_of_formed ht hlow hhigh hx hholds hkeep, if_neg (not_not_intro hheld), if_neg hnames, if_neg htap]

theorem exec_format (a l w : Byte) (idle : Value) (e : Byte) (s : State) :
    exec (.format a l w idle e) s = taken (.format a l w idle e) (handleFormat a l w idle e) s := rfl

theorem any_names_iff {t : TrunkId} {cs : List Change} :
    cs.any (Change.names t) = true ↔
      ∃ c ∈ cs, c.destination.trunk = t ∨ ∃ source, c.entry = .link source ∧ source.trunk = t := by
  simp [Change.names_iff]

/-! ### A FORMAT that repeats the record -/

theorem slotsBelow_getLsbD (n : Nat) (d : SlotId) : (slotsBelow n).getLsbD d.val = decide (d.val < n) := by
  rw [slotsBelow, BitVec.getLsbD_ofNat, Nat.testBit_two_pow_sub_one, decide_eq_true d.isLt, Bool.true_and]

/-- A set brought to a new length: slots at or above it leave, slots from the old length on join (R14). -/
theorem inSet_resizeSet (old new : Nat) (m : SlotSet) (d : SlotId) :
    inSet (resizeSet old new m) d = if new ≤ d.val then false else if old ≤ d.val then true else inSet m d := by
  have hd : d.val < 40 := d.isLt
  simp only [inSet, resizeSet, BitVec.getLsbD_or, BitVec.getLsbD_and, BitVec.getLsbD_not, slotsBelow_getLsbD, hd, decide_true,
    Bool.true_and]
  by_cases hnew : new ≤ d.val
  · simp [hnew]
  · by_cases hold : old ≤ d.val
    · simp [hnew, hold, Nat.lt_of_not_le hnew]
    · simp [hnew, hold, Nat.lt_of_not_le hnew, Nat.lt_of_not_le hold]

/-- A set within a length is unchanged by being brought to it. -/
theorem resizeSet_self {n : Nat} {m : SlotSet} (h : m &&& ~~~slotsBelow n = 0#40) : resizeSet n n m = m := by
  refine BitVec.eq_of_getLsbD_eq fun i hi => ?_
  have hset := inSet_resizeSet n n m ⟨i, hi⟩
  have hbelow : m.getLsbD i = true → i < n := by
    intro hm
    have hz := congrArg (BitVec.getLsbD · i) h
    have hs := slotsBelow_getLsbD n ⟨i, hi⟩
    simp only [BitVec.getLsbD_and, BitVec.getLsbD_not, hm, hi, hs, decide_true, Bool.true_and, BitVec.getLsbD_zero] at hz
    simpa using hz
  simp only [inSet] at hset
  rw [hset]
  by_cases hn : n ≤ i
  · rw [if_pos hn, eq_comm, Bool.eq_false_iff]
    exact fun hm => absurd (hbelow hm) (by omega)
  · rw [if_neg hn, if_neg hn]

theorem Mask.resize_self {n : Nat} {m : Mask} (h : m.Below n) : m.resize n n = m := by
  rw [Mask.resize, resizeSet_self h.1, resizeSet_self h.2]

theorem State.mapEntries_of_self {s : State} {f : FullSlot → MapEntry → MapEntry} (h : ∀ d, f d (s.entry d) = s.entry d) :
    s.mapEntries f = s := by
  have hmap : (s.mapEntries f).map = s.map := by
    refine Vector.ext fun t ht => Vector.ext fun d hd => ?_
    have hentry := (s.entry_mapEntries f ⟨⟨t, ht⟩, ⟨d, hd⟩⟩).trans (h _)
    exact hentry
  have hrest : s.mapEntries f = { s with map := (s.mapEntries f).map } := rfl
  rw [hrest, hmap]

theorem State.modifyTrunk_of_self {s : State} {t : TrunkId} {f : Trunk → Trunk} (h : f (s.trunk t) = s.trunk t) :
    s.modifyTrunk t f = s := by
  have htrunks : s.trunks.set t (f (s.trunk t)) = s.trunks := by
    rw [h]
    exact Vector.set_getElem_self t.isLt
  rw [State.modifyTrunk, htrunks]

/-- A FORMAT to the record a trunk has changes nothing, where the laws of slots and masks hold. -/
theorem State.reformat_self {s : State} {t : TrunkId} (hslots : s.SlotLaw) (hmasks : s.MaskLaw) :
    s.reformat t (s.trunk t).format = s := by
  obtain ⟨-, -, hrx, htx⟩ := State.maskLaw_iff.mp hmasks t
  have hexists {d : FullSlot} (ht : d.trunk = t) (hd : (s.trunk t).format.length ≤ d.slot.val) : s.exists d = false := by
    subst ht
    exact decide_eq_false (Nat.not_lt.mpr hd)
  have hentries (d : FullSlot) : reformatEntry t (s.trunk t).format.length (s.trunk t).format.width (s.trunk t).format.width d
      (s.entry d) = s.entry d := by
    obtain ⟨hnames, hopened⟩ := hslots.2 d
    unfold reformatEntry
    split
    next h => exact (hopened (hexists h.1 h.2)).symm
    · cases he : s.entry d with
      | link source =>
        refine if_neg fun ⟨hs, hl⟩ => ?_
        rw [he] at hnames
        exact absurd (hnames.symm.trans (hexists hs hl)) (by simp)
      | force v =>
        dsimp only
        rw [convert_self, ite_self]
      | _ => rfl
  unfold State.reformat
  dsimp only
  rw [State.mapEntries_of_self hentries]
  refine State.modifyTrunk_of_self ?_
  rw [Mask.resize_self hrx, Mask.resize_self htx]

/-- Settles O16: the operands are read back, and the handler's branches are the checks. -/
theorem formatChecksInOrder : Obligations.FormatChecksInOrder := by
  refine ⟨fun s a l w idle e hbad h => ?_, fun s t l w idle e hlow hhigh hwidth hkeep h => ?_,
    fun s t hslots hmasks hrx htx hnames htap hidle => ?_⟩
  · rw [exec_format]
    exact taken_refused_of_ready .range rfl h (handleFormat_of_malformed hbad _)
  · obtain ⟨x, hx, hholds⟩ := width?_holds_iff.mpr hwidth
    obtain ⟨keep, hkeep⟩ := yesNo?_of_le_one hkeep
    have hformed := handleFormat_of_formed (trunk?_trunkByte t) hlow hhigh hx hholds hkeep
    have hnamed := any_names_iff (t := t) (cs := s.changes)
    have htapped := State.tapOn_iff (s := s) (t := t)
    dsimp only
    rw [exec_format, ← hnamed, ← htapped]
    refine ⟨fun hrun => ?_, fun hheld hname => ?_, fun hheld hname htap => ?_, fun hheld hname htap => ?_⟩
    · exact taken_refused_of_ready .sectionRunning rfl h ((hformed _).trans (if_pos hrun))
    · exact taken_refused_of_ready .referencesPending rfl h
        ((hformed _).trans ((if_neg (not_not_intro hheld)).trans (if_pos hname)))
    · exact taken_refused_of_ready .tapBusy rfl h
        ((hformed _).trans ((if_neg (not_not_intro hheld)).trans ((if_neg hname).trans (if_pos htap))))
    · refine ⟨_, taken_ok_of_ready (u := s.reformat t { length := l.toNat, width := x, idle := idle, keepForced := keep }) rfl h ?_⟩
      exact handleFormat_of_free (trunk?_trunkByte t) hlow hhigh hx hholds hkeep hheld hname htap
  · obtain ⟨hlow, hhigh, -⟩ := hmasks t
    have hlength : (natByte (s.trunk t).format.length).toNat = (s.trunk t).format.length := natByte_toNat (by omega)
    intro f h
    rw [exec_format]
    refine taken_ok_of_ready (u := s) rfl h ?_
    have hfree : ¬s.changes.any (Change.names t) = true := by simpa using hnames
    have hidleTap : ¬s.tapOn t = true := by simp [htap]
    refine (handleFormat_of_free (s := s.buffered _) (trunk?_trunkByte t) (by rw [hlength]; exact hlow)
      (by rw [hlength]; exact hhigh) (width?_byte _) hidle (yesNo?_boolByte _) ⟨hrx, htx⟩ hfree hidleTap).trans ?_
    rw [hlength]
    exact congrArg (okWith []) (State.reformat_self (s := s.buffered _) (t := t) hslots hmasks)

/-! ### The effects (R14 to R16) -/

/-- Settles O17: `reformat`, table by table. -/
theorem formatEffects : Obligations.FormatEffects := by
  intro s t l w idle keep hlow hhigh hidle hrx htx hnames htap h
  let f : Format := { length := l.toNat, width := w, idle := idle, keepForced := keep }
  have hholds : w.holds idle = true := by
    cases w with
    | w8 => exact holds_w8_iff.mpr (hidle rfl)
    | w16 => exact decide_eq_true idle.isLt
  refine ⟨s.reformat t f, ?_, rfl, fun t' ht => ?_, ?_, fun d => ?_, fun d => ?_⟩
  · have hfree : ¬s.changes.any (Change.names t) = true := by simpa using hnames
    have hidleTap : ¬s.tapOn t = true := by simp [htap]
    rw [exec_format]
    exact taken_ok_of_ready (u := s.reformat t f) rfl h (handleFormat_of_free (s := s.buffered _) (trunk?_trunkByte t) hlow hhigh
      (width?_byte w) hholds (yesNo?_boolByte keep) ⟨hrx, htx⟩ hfree hidleTap)
  · rw [State.reformat_trunk, if_neg ht]
  · rw [State.reformat_trunk, if_pos rfl]
  · rw [State.reformat_trunk, if_pos rfl]
    exact ⟨inSet_resizeSet .., inSet_resizeSet .., inSet_resizeSet .., inSet_resizeSet ..⟩
  · rw [State.entry_reformat]
    unfold reformatEntry
    cases s.entry d with
    | force v => by_cases ht : d.trunk = t <;> simp only [ht, if_true, if_false] <;> rfl
    | _ => rfl

end Sys2Proof.Machine
end

section
/-! SUPPORT and PROOFS. Sections, masks and groups (R18, R24, R27, R33, R37, R43, R45, R61, R65, R80): what the commands that
name a trunk or a group answer, case by case. -/

namespace Sys2Proof.Machine

/-- A ready request that its handler answers with OK, in whatever state the handler leaves. -/
theorem taken_answered_of_ready {i : Instr} {handler : Handler} {code : Byte} {payload items : List Byte} {s v : State}
    (hr : encodeRequest i = some ⟨code, payload⟩) (h : s.Ready ⟨code, payload⟩)
    (hh : handler (s.buffered ⟨code, payload⟩) = okWith items v) :
    taken i handler s = .next (v.replied code (0x00#8 :: items)) := by
  rw [taken_of_ready hr h, hh]
  rfl

/-! ### The request buffer is seen by none of these -/

theorem State.writeRecord_buffered (s : State) (r : Request) (e : LogEvent) :
    (s.buffered r).writeRecord e = (s.writeRecord e).buffered r := by
  rw [State.writeRecord_eq, State.writeRecord_eq]
  rfl

theorem State.enterHoldover_buffered (s : State) (r : Request) (g : GroupId) (origin : Origin) (entry : Time) :
    (s.buffered r).enterHoldover g origin entry = (s.enterHoldover g origin entry).buffered r :=
  State.writeRecord_buffered ((s.toHoldover g origin entry).raise (.refLost g)) r _

theorem State.startGroup_buffered (s : State) (r : Request) (g : GroupId) (time : Time) :
    (s.buffered r).startGroup g time = (s.startGroup g time).buffered r := by
  rw [State.startGroup_eq, State.startGroup_eq, State.buffered_group]
  cases (s.group g).config.primary with
  | none => rfl
  | some k =>
    have hwrite := State.writeRecord_buffered (s.modifyGroup g (Group.begun .locked none none)) r (.locked g)
    simp only [State.buffered_trunk]
    by_cases ha : (s.trunk k).rx.state = .aligned
    · rw [if_pos ha]
      exact (if_pos ha).trans hwrite
    · rw [if_neg ha]
      exact if_neg ha

/-! ### RX RUN and RX HOLD (R18, R24) -/

theorem handleRxRun_of_named (t : TrunkId) (s : State) :
    handleRxRun (trunkByte t) s =
      if (s.trunk t).rx.state = .held then
        okWith [] (s.modifyTrunk t fun k => { k with rx := { k.rx with state := .hunt, candidate := none, missCount := 0 } })
      else refuse .state s := by
  simp only [handleRxRun, trunk?_trunkByte]

theorem handleRxRun_of_unnamed {a : Byte} (h : trunk? a = none) (s : State) : handleRxRun a s = refuse .range s := by
  simp only [handleRxRun, h]

/-- Settles O18: the handler's two branches. -/
theorem rxRunStartsSearch : Obligations.RxRunStartsSearch := by
  refine ⟨fun s t h => ?_, fun s a ha h => ?_⟩
  · split
    next hheld =>
      exact taken_ok_of_ready (i := .rxRun (trunkByte t)) (handler := handleRxRun _) rfl h
        ((handleRxRun_of_named t _).trans (if_pos hheld))
    next hheld =>
      exact taken_refused_of_ready (i := .rxRun (trunkByte t)) (handler := handleRxRun _) .state rfl h
        ((handleRxRun_of_named t _).trans (if_neg hheld))
  · exact taken_refused_of_ready (i := .rxRun a) (handler := handleRxRun a) .range rfl h
      (handleRxRun_of_unnamed (trunk?_eq_none_iff.mpr ha) _)

theorem handleRxHold_of_unnamed {a : Byte} (h : trunk? a = none) (time : Time) (s : State) :
    handleRxHold time a s = refuse .range s := by
  simp only [handleRxHold, h]

/-- RX HOLD with nothing due of the group that follows the trunk. -/
theorem handleRxHold_of_none {s : State} {t : TrunkId}
    (h : (s.group (s.trunk t).group).follows t = true → (s.group (s.trunk t).group).due = none) (time : Time) :
    handleRxHold time (trunkByte t) s =
      okWith [] (if (s.trunk t).rx.state = .aligned then
        ((s.advance time).holdReceive t).leavesAligned t (max s.now time) else (s.advance time).holdReceive t) := by
  simp only [handleRxHold, trunk?_trunkByte, State.settleFollower_of_none h, State.advance_trunk]
  split <;> rfl

/-- Settles O19: `holdReceive` is what a section that leaves alignment leaves, and `leavesAligned` asks whether the group
follows it. -/
theorem rxHoldStopsReceiving : Obligations.RxHoldStopsReceiving := by
  refine ⟨fun s t time h hdue => ?_, fun s time a ha h => ?_⟩
  · refine ⟨(s.advance time).holdReceive t, fun t' => ?_, fun g t' => ?_, rfl, ?_⟩
    · rw [State.holdReceive_eq, State.leaveAlignment_trunk]
      rfl
    · rw [State.holdReceive_eq, State.leaveAlignment_pair]
      rfl
    · have hhandler := handleRxHold_of_none (s := s.buffered ⟨0x13#8, [trunkByte t]⟩) (t := t) hdue time
      have hleaves := State.leavesAligned_eq (s := s) (t := t)
        (u := State.buffered ⟨0x13#8, [trunkByte t]⟩ ((s.advance time).holdReceive t))
        (by rw [State.holdReceive_eq]; exact State.leaveAlignment_trunk_group ..) rfl (max s.now time)
      have hanswer := fun v hh => taken_answered_of_ready (i := .rxHold time (trunkByte t)) (v := v) rfl h
        (hhandler.trans (congrArg (okWith []) hh))
      dsimp only
      by_cases ha : (s.trunk t).rx.state = .aligned
      · refine (hanswer _ ((if_pos ha).trans hleaves)).trans ?_
        by_cases hprimary : (s.group (s.trunk t).group).state = .locked ∧ (s.group (s.trunk t).group).config.primary = some t
        · have horigin : (s.group (s.trunk t).group).holdoverOrigin = .primary := by simp [Group.holdoverOrigin, hprimary.1]
          rw [if_pos (Group.follows_iff.mpr (.inl hprimary)), if_pos ⟨ha, hprimary⟩, horigin, State.enterHoldover_buffered,
            State.replied_buffered]
        · by_cases hstandby : (s.group (s.trunk t).group).state = .standby ∧ (s.group (s.trunk t).group).config.standby = some t
          · have horigin : (s.group (s.trunk t).group).holdoverOrigin = .standby := by simp [Group.holdoverOrigin, hstandby.1]
            rw [if_pos (Group.follows_iff.mpr (.inr hstandby)), if_neg (mt And.right hprimary), if_pos ⟨ha, hstandby⟩, horigin,
              State.enterHoldover_buffered, State.replied_buffered]
          · rw [if_neg (mt Group.follows_iff.mp (not_or.mpr ⟨hprimary, hstandby⟩)), if_neg (mt And.right hprimary),
              if_neg (mt And.right hstandby), State.replied_buffered]
      · refine (hanswer _ (if_neg ha)).trans ?_
        rw [if_neg (mt And.left ha), if_neg (mt And.left ha)]
        rfl
  · exact taken_refused_of_ready (i := .rxHold time a) (handler := handleRxHold time a) .range rfl h
      (handleRxHold_of_unnamed (trunk?_eq_none_iff.mpr ha) time _)

/-! ### TX RUN (R27, R45) -/

theorem handleTxRun_of_named (t : TrunkId) (time : Time) (s : State) :
    handleTxRun time (trunkByte t) s =
      if (s.trunk t).tx.state = .held then
        okWith [] (
          let v := (s.advance time).modifyTrunk t fun k => { k with tx := { Transmit.reset with state := .run } }
          if (s.group (s.trunk t).group).state = .stopped then v.startGroup (s.trunk t).group (max s.now time) else v)
      else refuse .state s := by
  simp only [handleTxRun, trunk?_trunkByte]
  rfl

theorem handleTxRun_of_unnamed {a : Byte} (h : trunk? a = none) (time : Time) (s : State) :
    handleTxRun time a s = refuse .range s := by
  simp only [handleTxRun, h]

/-- Settles O20: the handler's branches, and `startGroup` by its three cases. -/
theorem txRunStartsSectionAndGroup : Obligations.TxRunStartsSectionAndGroup := by
  refine ⟨fun s t time h hheld => ?_, fun s t time h hrun => ?_, fun s time a ha h => ?_, rfl, rfl, rfl, rfl⟩
  · have hhandler := (handleTxRun_of_named t time (s.buffered ⟨0x14#8, [trunkByte t]⟩)).trans (if_pos hheld)
    have hanswer := fun v hh => taken_answered_of_ready (i := .txRun time (trunkByte t)) (v := v) rfl h
      (hhandler.trans (congrArg (okWith []) hh))
    by_cases hstopped : (s.group (s.trunk t).group).state = .stopped
    · have hstart := State.startGroup_buffered ((s.advance time).modifyTrunk t fun k =>
        { k with tx := { Transmit.reset with state := .run } }) ⟨0x14#8, [trunkByte t]⟩ (s.trunk t).group (max s.now time)
      refine (hanswer _ ((if_pos hstopped).trans hstart)).trans ?_
      have hrx (k : TrunkId) : (((s.advance time).modifyTrunk t fun k =>
          { k with tx := { Transmit.reset with state := .run } }).trunk k).rx = (s.trunk k).rx := by
        rw [State.trunk_modifyTrunk]
        split
        next hk => rw [hk]; rfl
        · rfl
      rw [if_neg (not_not_intro hstopped), State.replied_buffered, State.startGroup_eq, State.modifyTrunk_group,
        State.advance_group]
      cases (s.group (s.trunk t).group).config.primary with
      | none => rfl
      | some k =>
        dsimp only
        rw [hrx]
        rfl
    · refine (hanswer _ (if_neg hstopped)).trans ?_
      rw [if_pos hstopped]
      rfl
  · exact taken_refused_of_ready (i := .txRun time (trunkByte t)) (handler := handleTxRun _ _) .state rfl h
      ((handleTxRun_of_named t time _).trans (if_neg (by simp [hrun])))
  · exact taken_refused_of_ready (i := .txRun time a) (handler := handleTxRun time a) .range rfl h
      (handleTxRun_of_unnamed (trunk?_eq_none_iff.mpr ha) time _)

/-! ### SET MASK (R33) -/

/-- A set reaches beyond a length exactly when it has a slot at or above it. -/
theorem below_iff {n : Nat} {m : SlotSet} :
    m &&& ~~~slotsBelow n = 0#40 ↔ ∀ d : SlotId, inSet m d = true → d.val < n := by
  have hbit (d : SlotId) : (m &&& ~~~slotsBelow n).getLsbD d.val = (inSet m d && !decide (d.val < n)) := by
    rw [BitVec.getLsbD_and, BitVec.getLsbD_not, slotsBelow_getLsbD, decide_eq_true d.isLt, Bool.true_and, inSet]
  refine ⟨fun h d hd => ?_, fun h => BitVec.eq_of_getLsbD_eq fun i hi => ?_⟩
  · have hz := hbit d
    rw [h, hd, BitVec.getLsbD_zero] at hz
    simpa using hz.symm
  · rw [hbit ⟨i, hi⟩, BitVec.getLsbD_zero]
    cases hm : inSet m ⟨i, hi⟩ with
    | false => rfl
    | true => simp [h ⟨i, hi⟩ hm]

theorem direction?_eq_none {b : Byte} (h : 2 ≤ b.toNat) : direction? b = none := by
  unfold direction?
  split
  · omega
  · omega
  · rfl

theorem handleSetMask_of_named (t : TrunkId) {b : Byte} {dir : Direction} (hb : direction? b = some dir) (m : SlotSet) (s : State) :
    handleSetMask (trunkByte t) b m s =
      if m &&& ~~~slotsBelow (s.trunk t).format.length = 0#40 then
        okWith [] (s.modifyTrunk t fun k =>
          match dir with
          | .receive => { k with rxMask := k.rxMask.write m (k.rx.state != .aligned) }
          | .transmit => { k with txMask := k.txMask.write m (k.tx.state != .run) })
      else refuse .range s := by
  simp only [handleSetMask, trunk?_trunkByte, hb]
  cases dir <;> rfl

theorem handleSetMask_of_unnamed {a b : Byte} (h : trunk? a = none ∨ direction? b = none) (m : SlotSet) (s : State) :
    handleSetMask a b m s = refuse .range s := by
  obtain ha | hb := h
  · simp only [handleSetMask, ha]
  · cases ha : trunk? a <;> simp only [handleSetMask, ha, hb]

/-- A set with a slot that does not exist is refused, whatever the direction operand. -/
theorem handleSetMask_of_beyond {s : State} {t : TrunkId} {m : SlotSet} {d : SlotId} (hd : inSet m d = true)
    (hlength : (s.trunk t).format.length ≤ d.val) (b : Byte) : handleSetMask (trunkByte t) b m s = refuse .range s := by
  cases hb : direction? b with
  | none => exact handleSetMask_of_unnamed (.inr hb) m s
  | some dir => exact (handleSetMask_of_named t hb m s).trans (if_neg fun h => absurd (below_iff.mp h d hd) (by omega))

theorem Mask.write_eq (m : Mask) (slots : SlotSet) {now : Prop} [Decidable now] {b : Bool} (h : b = !decide now) :
    m.write slots b = { active := if now then m.active else slots, pending := slots } := by
  subst h
  by_cases hn : now <;> simp [Mask.write, hn]

/-- Settles O22: the set's slots decide, and the mask written is active at once where the section does not run. -/
theorem setMaskWritesPending : Obligations.SetMaskWritesPending := by
  have hexec (a b : Byte) (m : SlotSet) (s : State) :
      exec (.setMask a b m) s = taken (.setMask a b m) (handleSetMask a b m) s := rfl
  refine ⟨fun s t m h hm => ?_, fun s t m h hm => ?_, fun s t b m d hd hlength h => ?_, fun s a b m hab h => ?_⟩
  · rw [hexec]
    refine taken_ok_of_ready rfl h ((handleSetMask_of_named t (dir := .receive) rfl m _).trans
      ((if_pos (below_iff.mpr hm)).trans ?_))
    have hwrite (k : Trunk) := Mask.write_eq k.rxMask m (now := k.rx.state = .aligned) (b := k.rx.state != .aligned)
      (by cases k.rx.state <;> rfl)
    simp only [hwrite]
    rfl
  · rw [hexec]
    refine taken_ok_of_ready rfl h ((handleSetMask_of_named t (dir := .transmit) rfl m _).trans
      ((if_pos (below_iff.mpr hm)).trans ?_))
    have hwrite (k : Trunk) := Mask.write_eq k.txMask m (now := k.tx.state = .run) (b := k.tx.state != .run)
      (by cases k.tx.state <;> rfl)
    simp only [hwrite]
    rfl
  · rw [hexec]
    exact taken_refused_of_ready .range rfl h (handleSetMask_of_beyond (s := s.buffered _) hd hlength b)
  · rw [hexec]
    exact taken_refused_of_ready .range rfl h
      (handleSetMask_of_unnamed (hab.imp trunk?_eq_none_iff.mpr direction?_eq_none) m _)

/-! ### GROUP SET and REVERT (R43, R61) -/

@[simp] theorem policy?_byte (p : Policy) : policy? p.byte = some p := by cases p <;> rfl

@[simp] theorem rate?_byte (r : Rate) : rate? r.byte = some r := by cases r <;> rfl

theorem policy?_eq_none {b : Byte} (h : 4 ≤ b.toNat) : policy? b = none := by
  unfold policy?
  split
  · omega
  · omega
  · omega
  · omega
  · rfl

theorem rate?_eq_none {b : Byte} (h : 4 ≤ b.toNat) : rate? b = none := by
  unfold rate?
  split
  · omega
  · omega
  · omega
  · omega
  · rfl

theorem config?_of_named (k j : Option TrunkId) (grace : Value) (p : Policy) (r : Rate) (limit : Value) :
    config? (referenceByte k) (referenceByte j) grace p.byte r.byte limit =
      if 1 ≤ grace.toNat ∧ grace.toNat ≤ 2000 then
        some { primary := k, standby := j, grace := grace, policy := p, rate := r, longLimit := limit }
      else none := by
  simp only [config?, trunkOrMark?_referenceByte, policy?_byte, rate?_byte]

theorem config?_of_unnamed {a b : Byte} {grace : Value} {c e : Byte} {limit : Value}
    (h : trunkOrMark? a = none ∨ trunkOrMark? b = none ∨ policy? c = none ∨ rate? e = none) :
    config? a b grace c e limit = none := by
  unfold config?
  split
  next ha hb hc he => simp [ha, hb, hc, he] at h
  · rfl

theorem handleGroupSet_of_running {s : State} {g : GroupId} (h : (s.group g).state ≠ .stopped) (a b : Byte) (grace : Value)
    (c e : Byte) (limit : Value) : handleGroupSet (groupByte g) a b grace c e limit s = refuse .groupRunning s := by
  simp only [handleGroupSet, group?_groupByte, if_pos h]

theorem handleGroupSet_of_unset {s : State} {g : GroupId} (h : (s.group g).state = .stopped) {a b : Byte} {grace : Value}
    {c e : Byte} {limit : Value} (hc : config? a b grace c e limit = none) :
    handleGroupSet (groupByte g) a b grace c e limit s = refuse .range s := by
  simp only [handleGroupSet, group?_groupByte, if_neg (not_not_intro h), hc]

theorem handleGroupSet_of_set {s : State} {g : GroupId} (h : (s.group g).state = .stopped) {a b : Byte} {grace : Value}
    {c e : Byte} {limit : Value} {record : GroupConfig} (hc : config? a b grace c e limit = some record) :
    handleGroupSet (groupByte g) a b grace c e limit s =
      if s.referencesValid g record then okWith [] (s.modifyGroup g fun u => { u with config := record })
      else refuse .range s := by
  simp only [handleGroupSet, group?_groupByte, if_neg (not_not_intro h), hc]

theorem handleGroupSet_of_unnamed {x : Byte} (h : group? x = none) (a b : Byte) (grace : Value) (c e : Byte) (limit : Value)
    (s : State) : handleGroupSet x a b grace c e limit s = refuse .range s := by
  simp only [handleGroupSet, h]

/-- Settles O24: the checks in order, the record's fields by `config?` and its references by `referencesValid`. -/
theorem groupSetReplacesRecord : Obligations.GroupSetReplacesRecord := by
  have hexec (x a b : Byte) (grace : Value) (c e : Byte) (limit : Value) (s : State) :
      exec (.groupSet x a b grace c e limit) s =
        taken (.groupSet x a b grace c e limit) (handleGroupSet x a b grace c e limit) s := rfl
  refine ⟨fun s g k j grace policy rate limit h => ?_, fun s g a b grace c e limit h => ⟨fun hrun => ?_, fun hstop hbad => ?_⟩,
    fun s x a b grace c e limit hx h => ?_⟩
  · rw [hexec]
    have hconfig := config?_of_named k j grace policy rate limit
    split
    next hrun => exact taken_refused_of_ready .groupRunning rfl h (handleGroupSet_of_running (s := s.buffered _) hrun ..)
    next hstop =>
      have hstop : (s.group g).state = .stopped := not_not.mp hstop
      split
      next hgrace =>
        exact taken_refused_of_ready .range rfl h
          (handleGroupSet_of_unset (s := s.buffered _) hstop (hconfig.trans (if_neg hgrace)))
      next hgrace =>
        have hset := fun u : State => handleGroupSet_of_set (s := u) (g := g) (hc := hconfig.trans (if_pos (not_not.mp hgrace)))
        split
        next hvalid =>
          exact taken_ok_of_ready rfl h ((hset (s.buffered _) hstop).trans (if_pos (State.referencesValid_iff.mpr hvalid)))
        next hvalid =>
          exact taken_refused_of_ready .range rfl h
            ((hset (s.buffered _) hstop).trans (if_neg (mt State.referencesValid_iff.mp hvalid)))
  · rw [hexec]
    exact taken_refused_of_ready .groupRunning rfl h (handleGroupSet_of_running (s := s.buffered _) hrun ..)
  · rw [hexec]
    refine taken_refused_of_ready .range rfl h (handleGroupSet_of_unset (s := s.buffered _) hstop (config?_of_unnamed ?_))
    exact hbad.imp trunkOrMark?_eq_none_iff.mpr (.imp trunkOrMark?_eq_none_iff.mpr (.imp policy?_eq_none rate?_eq_none))
  · rw [hexec]
    exact taken_refused_of_ready .range rfl h (handleGroupSet_of_unnamed (group?_eq_none_iff.mpr hx) ..)

theorem handleRevert_of_unnamed {a : Byte} (h : group? a = none) (s : State) : handleRevert a s = refuse .range s := by
  simp only [handleRevert, h]

/-- REVERT's checks in order. -/
theorem handleRevert_of_named (g : GroupId) (s : State) :
    handleRevert (groupByte g) s =
      if (s.group g).state ≠ .standby then refuse .state s
      else if s.primaryAligned g = false then refuse .notAligned s
      else okWith [] (((s.settleBoundary g).raise (.refChange g)).enterLocked g) := by
  simp only [handleRevert, group?_groupByte]

/-- Settles O25: the handler's branches, with no boundary due. -/
theorem revertReturnsToLocked : Obligations.RevertReturnsToLocked := by
  have hexec (a : Byte) (s : State) : exec (.revert a) s = taken (.revert a) (handleRevert a) s := rfl
  refine ⟨fun s g h => ⟨fun hstate => ?_, fun hstate hfree => ?_, fun hstate hdue k hk ha => ?_⟩, fun s a ha h => ?_⟩
  · rw [hexec]
    exact taken_refused_of_ready .state rfl h ((handleRevert_of_named g _).trans (if_pos hstate))
  · have hnot : (s.buffered ⟨0x23#8, [groupByte g]⟩).primaryAligned g = false := by
      rw [Bool.eq_false_iff, ne_eq, State.primaryAligned_iff]
      exact fun ⟨k, hk, ha⟩ => hfree k hk ha
    rw [hexec]
    exact taken_refused_of_ready .notAligned rfl h
      ((handleRevert_of_named g _).trans ((if_neg (not_not_intro hstate)).trans (if_pos hnot)))
  · have haligned : ¬(s.buffered ⟨0x23#8, [groupByte g]⟩).primaryAligned g = false := by
      rw [Bool.not_eq_false, State.primaryAligned_iff]
      exact ⟨k, hk, ha⟩
    have hhandler := (handleRevert_of_named g (s.buffered ⟨0x23#8, [groupByte g]⟩)).trans
      ((if_neg (not_not_intro hstate)).trans (if_neg haligned))
    rw [State.settleBoundary_of_none (s := s.buffered _) hdue] at hhandler
    rw [hexec, taken_answered_of_ready rfl h hhandler, State.enterLocked, State.writeRecord_eq, State.writeRecord_eq]
    rfl
  · rw [hexec]
    exact taken_refused_of_ready .range rfl h (handleRevert_of_unnamed (group?_eq_none_iff.mpr ha) _)

/-! ### Reports (R37, R65, R80) -/

theorem trunkBit_getLsbD (t t' : TrunkId) : (trunkBit t).getLsbD t'.val = decide (t' = t) := by
  revert t t'; decide

/-- The byte of a set of trunks has a trunk's bit exactly when the trunk is in the set. -/
theorem trunkSet_getLsbD (p : TrunkId → Bool) (t : TrunkId) : (trunkSet p).getLsbD t.val = p t := by
  have hfold (ts : List TrunkId) (m : BitVec 8) :
      (ts.foldl (fun m t => if p t then m ||| trunkBit t else m) m).getLsbD t.val = (m.getLsbD t.val || (decide (t ∈ ts) && p t)) := by
    induction ts generalizing m with
    | nil => simp
    | cons x ts ih =>
      rw [List.foldl_cons, ih]
      have hbit : (if p x then m ||| trunkBit x else m).getLsbD t.val = (m.getLsbD t.val || (decide (t = x) && p x)) := by
        cases p x with
        | false => simp
        | true => rw [if_pos rfl, BitVec.getLsbD_or, trunkBit_getLsbD, Bool.and_true]
      rw [hbit]
      by_cases hx : t = x
      · subst hx
        cases p t <;> simp
      · simp [hx]
  refine (hfold allTrunks 0#8).trans ?_
  simp [allTrunks]

theorem handleTrunkStatus_of_named (t : TrunkId) (clear : Bool) (s : State) :
    handleTrunkStatus (trunkByte t) (boolByte clear) s =
      okWith (s.trunk t).statusBytes
        (if clear then s.modifyTrunk t fun k => { k with rx := { k.rx with lossCount := 0#16 } } else s) := by
  simp only [handleTrunkStatus, trunk?_trunkByte, yesNo?_boolByte]

theorem handleTrunkStatus_of_unnamed {a b : Byte} (h : trunk? a = none ∨ yesNo? b = none) (s : State) :
    handleTrunkStatus a b s = refuse .range s := by
  obtain ha | hb := h
  · simp only [handleTrunkStatus, ha]
  · cases ha : trunk? a <;> simp only [handleTrunkStatus, ha, hb]

theorem handleGroupStatus_of_named (g : GroupId) (s : State) :
    handleGroupStatus (groupByte g) s = okWith (s.groupStatusBytes g) s := by
  simp only [handleGroupStatus, group?_groupByte]

theorem handleGroupStatus_of_unnamed {a : Byte} (h : group? a = none) (s : State) :
    handleGroupStatus a s = refuse .range s := by
  simp only [handleGroupStatus, h]

theorem handleSlipStatus_of_named (g : GroupId) (t : TrunkId) (s : State) :
    handleSlipStatus (groupByte g) (trunkByte t) s = okWith (s.slipStatusBytes g t) s := by
  simp only [handleSlipStatus, group?_groupByte, trunk?_trunkByte]

theorem handleSlipStatus_of_unnamed {a b : Byte} (h : group? a = none ∨ trunk? b = none) (s : State) :
    handleSlipStatus a b s = refuse .range s := by
  obtain ha | hb := h
  · simp only [handleSlipStatus, ha]
  · cases ha : group? a <;> simp only [handleSlipStatus, ha, hb]

theorem boolByte_beq {α : Type} [DecidableEq α] (a b : α) : boolByte (a == b) = if a = b then 1#8 else 0#8 := by
  simp [boolByte]

/-- Settles O27: each handler's items, spelled out. -/
theorem statusReports : Obligations.StatusReports := by
  refine ⟨fun s t clear h => ?_, fun s a b hab h => ?_, fun s g h => ⟨trunkSet fun t => (s.trunk t).group == g,
    trunkSet fun t => (s.trunk t).runMember g, fun t => ?_, fun t => ?_, ?_⟩, fun s a ha h => ?_, fun s g t h => ?_,
    fun s a b hab h => ?_⟩
  · refine taken_ok_of_ready (i := .trunkStatus _ _) (handler := handleTrunkStatus _ _) rfl h
      ((handleTrunkStatus_of_named t clear _).trans ?_)
    cases clear <;> rfl
  · exact taken_refused_of_ready (i := .trunkStatus a b) (handler := handleTrunkStatus a b) .range rfl h
      (handleTrunkStatus_of_unnamed (hab.imp trunk?_eq_none_iff.mpr yesNo?_eq_none) _)
  · rw [trunkSet_getLsbD, Bool.beq_eq_decide_eq]
  · rw [trunkSet_getLsbD, Trunk.runMember, Bool.beq_eq_decide_eq, Bool.beq_eq_decide_eq, Bool.decide_and]
  · refine (taken_ok_of_ready (i := .groupStatus _) (handler := handleGroupStatus _) (u := s) rfl h
      (handleGroupStatus_of_named g _)).trans ?_
    simp only [State.groupStatusBytes, Group.policyInEffect, boolByte_beq]
    rfl
  · exact taken_refused_of_ready (i := .groupStatus a) (handler := handleGroupStatus a) .range rfl h
      (handleGroupStatus_of_unnamed (group?_eq_none_iff.mpr ha) _)
  · exact taken_ok_of_ready (i := .slipStatus _ _) (handler := handleSlipStatus _ _) (u := s) rfl h
      (handleSlipStatus_of_named g t _)
  · exact taken_refused_of_ready (i := .slipStatus a b) (handler := handleSlipStatus a b) .range rfl h
      (handleSlipStatus_of_unnamed (hab.imp group?_eq_none_iff.mpr trunk?_eq_none_iff.mpr) _)

end Sys2Proof.Machine
end

section
/-! SUPPORT and PROOFS. Transmit holds and the grace expiry (R29, R30, R46, R57, R59, R92, R118): what one hold leaves, and that
the holds of a cascade leave together what one hold of them all would. -/

namespace Sys2Proof.Machine

/-! ### One hold -/

/-- A hold of `t` up to the stop of its section: its in-flight entries applied, its pending mask active, its FORCE entries OPEN
where they are not kept (R29 steps 1 to 3). -/
def State.drained (t : TrunkId) (s : State) : State :=
  ((s.applyInFlight (· == t)).modifyTrunk t fun k => { k with txMask := k.txMask.activate }).clearForced t

theorem State.holdTransmit_eq_halt (s : State) (t : TrunkId) : s.holdTransmit t = (s.drained t).haltTransmit t := rfl

theorem State.drained_trunk (s : State) (t t' : TrunkId) :
    (s.drained t).trunk t' = if t' = t then { s.trunk t with txMask := (s.trunk t).txMask.activate } else s.trunk t' := by
  have hclear : ∀ u : State, (u.clearForced t).trunk t' = u.trunk t' := fun u => by simp [State.trunk]
  rw [State.drained, hclear, State.trunk_modifyTrunk, State.applyInFlight_trunk, State.applyInFlight_trunk]

@[simp] theorem State.drained_group (s : State) (t : TrunkId) (g : GroupId) : (s.drained t).group g = s.group g := by
  simp [State.drained, State.group]

@[simp] theorem State.drained_pair (s : State) (t : TrunkId) (g : GroupId) (t' : TrunkId) :
    (s.drained t).pair g t' = s.pair g t' := by
  simp [State.drained, State.pair]

/-- Whether the holds of the trunks `p` leave a running group `g` without a RUN member. -/
def State.StopsBy (g : GroupId) (p : TrunkId → Bool) (s : State) : Prop :=
  (s.group g).state ≠ .stopped ∧ ∀ t : TrunkId, (s.trunk t).runMember g = true → p t = true

theorem State.drained_haltStops_iff {s : State} {t : TrunkId} :
    (s.drained t).haltStops t ↔ s.StopsBy (s.trunk t).group (· == t) := by
  have hgroup : ((s.drained t).trunk t).group = (s.trunk t).group := by rw [State.drained_trunk, if_pos rfl]
  have hmember (t' : TrunkId) :
      (((s.drained t).modifyTrunk t fun k => { k with tx := .reset }).trunk t').runMember (s.trunk t).group = false ↔
        ((s.trunk t').runMember (s.trunk t).group = true → (t' == t) = true) := by
    rw [State.trunk_modifyTrunk, State.drained_trunk, State.drained_trunk]
    by_cases ht : t' = t
    · simp [ht, Trunk.runMember, Transmit.reset]
    · simp [ht]
  unfold State.haltStops State.StopsBy
  rw [hgroup, State.drained_group, State.hasRunMember_eq_false]
  exact and_congr_right fun _ => forall_congr' hmember

theorem State.drained_entry {s : State} (hone : s.OneEntryEach) (t : TrunkId) (d : FullSlot) :
    (s.drained t).entry d =
      if d.trunk = t then
        if (s.trunk d.trunk).format.keepForced = false ∧ (s.appliedEntry d).isForce = true then .opened
        else s.appliedEntry d
      else s.entry d := by
  have happlied := State.applyInFlight_appliedEntry hone (· == t) d
  have hmodify : ∀ u : State, (u.modifyTrunk t fun k => { k with txMask := k.txMask.activate }).entry d = u.entry d :=
    fun _ => rfl
  unfold State.drained State.clearForced
  rw [State.trunk_modifyTrunk_self, State.applyInFlight_trunk]
  by_cases ht : d.trunk = t
  · subst ht
    rw [if_pos (beq_self_eq_true _)] at happlied
    rw [if_pos rfl]
    by_cases hkeep : (s.trunk d.trunk).format.keepForced = true
    · rw [if_pos hkeep, if_neg (by simp [hkeep]), hmodify, happlied]
    · rw [if_neg hkeep, State.entry_mapEntries, hmodify, happlied]
      simp [hkeep]
  · rw [if_neg (by simpa using ht)] at happlied
    rw [if_neg ht]
    split
    · rw [hmodify, happlied]
    · rw [State.entry_mapEntries, if_neg fun h => ht h.1, hmodify, happlied]

open Classical in
/-- What a hold of `t` leaves (R29, R30, R46). -/
theorem State.holdTransmit_leaves {s : State} (hbatch : s.BatchLaw) (hone : s.OneEntryEach) (t : TrunkId) :
    s.HoldsLeave (s.trunk t).group (· == t) (s.holdTransmit t) := by
  have hgroup : ((s.drained t).trunk t).group = (s.trunk t).group := by rw [State.drained_trunk, if_pos rfl]
  have hstops := State.drained_haltStops_iff (s := s) (t := t)
  refine ⟨?_, fun d => ?_, fun t' => ?_, fun g' => ?_, fun g' t' => ?_, ?_⟩
  · have hleft := State.applyInFlight_left hbatch (· == t)
    have hfields : (s.holdTransmit t).changes = (s.applyInFlight (· == t)).changes ∧
        (s.holdTransmit t).batch = (s.applyInFlight (· == t)).batch ∧
        (s.holdTransmit t).lastBatch = (s.applyInFlight (· == t)).lastBatch ∧
        (s.holdTransmit t).attention = (s.applyInFlight (· == t)).attention := by
      simp [State.holdTransmit_eq_halt, State.drained]
    obtain ⟨hc, hb, hl, ha⟩ := hfields
    unfold State.InFlightLeft
    rw [hc, hb, hl, ha]
    exact hleft
  · have hentry : (s.holdTransmit t).entry d = (s.drained t).entry d := by
      simp [State.holdTransmit_eq_halt, State.entry]
    rw [hentry, State.drained_entry hone]
    by_cases ht : d.trunk = t
    · exact (if_pos ht).trans (if_pos (beq_iff_eq.mpr ht)).symm
    · exact (if_neg ht).trans (if_neg (mt beq_iff_eq.mp ht)).symm
  · rw [State.holdTransmit_trunk]
    by_cases ht : t' = t
    · subst ht
      rw [if_pos rfl, if_pos (beq_self_eq_true _)]
      rfl
    · rw [if_neg ht, if_neg (by simpa using ht)]
  · rw [State.holdTransmit_eq_halt, State.haltTransmit_group, hgroup, State.drained_group]
    by_cases hall : g' = (s.trunk t).group ∧ s.StopsBy (s.trunk t).group (· == t)
    · rw [if_pos ⟨hall.1, hstops.mpr hall.2⟩]
      refine Eq.trans ?_ (if_pos hall).symm
      rw [hall.1]
      rfl
    · rw [if_neg fun h => hall ⟨h.1, hstops.mp h.2⟩]
      exact (if_neg hall).symm
  · rw [State.holdTransmit_eq_halt, State.haltTransmit_pair, hgroup, State.drained_pair]
    by_cases hall : g' = (s.trunk t).group ∧ s.StopsBy (s.trunk t).group (· == t)
    · rw [if_pos ⟨hall.1, hstops.mpr hall.2⟩]
      refine Eq.trans ?_ (if_pos hall).symm
      rw [hall.1]
    · rw [if_neg fun h => hall ⟨h.1, hstops.mp h.2⟩]
      exact (if_neg hall).symm
  · obtain ⟨_, _, _, _, _, _, _, _, h⟩ := State.holdTransmit_eq t s
    rw [h]

theorem handleTxHold_of_named {s : State} {t : TrunkId}
    (h : s.lastRunMember t = true → (s.group (s.trunk t).group).due = none) :
    handleTxHold (trunkByte t) s = okWith [] (s.holdTransmit t) := by
  simp only [handleTxHold, trunk?_trunkByte]
  rw [State.settleStopped_of_none h]

/-- Settles O21: nothing is due of a group that the hold stops, and `holdTransmit_leaves` in the state in which the request is
taken, whose link the hold leaves. -/
theorem txHoldStopsTransmitting : Obligations.TxHoldStopsTransmitting := by
  refine ⟨fun s t h hbatch hone hdue => ?_, fun s a ha h => ?_⟩
  · have hleave := State.holdTransmit_leaves (s := s.buffered ⟨0x15#8, [trunkByte t]⟩) hbatch hone t
    have hhandler := handleTxHold_of_named (s := s.buffered ⟨0x15#8, [trunkByte t]⟩) hdue
    obtain ⟨trunks, groups, pairs, map, changes, batch, lastBatch, attention, heq⟩ :=
      State.holdTransmit_eq t (s.buffered ⟨0x15#8, [trunkByte t]⟩)
    rw [heq] at hleave hhandler
    obtain ⟨hflight, hentry, htrunk, hgroup, hpair, -⟩ := hleave
    exact ⟨{ s with trunks := trunks, groups := groups, pairs := pairs, map := map, changes := changes, batch := batch
                    lastBatch := lastBatch, attention := attention },
      ⟨hflight, hentry, htrunk, hgroup, hpair, rfl⟩,
      taken_ok_of_ready (i := .txHold _) (handler := handleTxHold _) rfl h hhandler⟩
  · have hhandler (s : State) : handleTxHold a s = refuse .range s := by
      simp only [handleTxHold, trunk?_eq_none_iff.mpr ha]
    exact taken_refused_of_ready (i := .txHold a) (handler := handleTxHold a) .range rfl h (hhandler _)

/-! ### The STOP cascade: holds in turn -/

/-- The in-flight entries on `p` or on `t` are those on `p` and, of the rest, those on `t`. -/
theorem countP_inFlight_add (p : TrunkId → Bool) (t : TrunkId) (cs : List Change) :
    cs.countP (fun c => c.inFlight && (p c.destination.trunk || c.destination.trunk == t)) =
      cs.countP (fun c => c.inFlight && p c.destination.trunk) +
        (cs.filter fun c => !(c.inFlight && p c.destination.trunk)).countP fun c =>
          c.inFlight && c.destination.trunk == t := by
  rw [List.countP_eq_countP_filter_add cs _ fun c => c.inFlight && p c.destination.trunk, List.countP_filter,
    List.countP_filter, List.countP_filter]
  refine congrArg₂ (· + ·) (List.countP_congr fun c _ => ?_) (List.countP_congr fun c _ => ?_)
  · cases c.inFlight <;> cases p c.destination.trunk <;> simp
  · cases c.inFlight <;> cases p c.destination.trunk <;> simp

/-- Applications on `p` and then on `t` leave together what one application on both leaves. -/
theorem State.InFlightLeft.add {p : TrunkId → Bool} {s v w : State} {t : TrunkId} (hbatch : s.BatchLaw)
    (h : s.InFlightLeft p v) (hw : v.InFlightLeft (· == t) w) : s.InFlightLeft (fun t' => p t' || t' == t) w := by
  obtain ⟨hchanges, hleft⟩ := h
  obtain ⟨hchanges', hleft'⟩ := hw
  have hsum : s.inFlightCount (fun t' => p t' || t' == t) = s.inFlightCount p + v.inFlightCount (· == t) := by
    unfold State.inFlightCount
    rw [hchanges]
    exact countP_inFlight_add p t s.changes
  have hle : s.inFlightCount p + v.inFlightCount (· == t) ≤ s.changes.countP Change.inFlight := by
    rw [← hsum]
    exact List.countP_mono_left fun c _ hc => (Bool.and_eq_true_iff.mp hc).1
  refine ⟨?_, ?_⟩
  · rw [hchanges', hchanges, List.filter_filter]
    refine List.filter_congr fun c _ => ?_
    dsimp only
    generalize c.inFlight = flight, p c.destination.trunk = before, (c.destination.trunk == t) = now
    decide +revert
  · rw [hsum]
    unfold State.BatchLaw at hbatch
    cases hb : s.batch with
    | none =>
      simp only [hb] at hleft ⊢
      obtain ⟨hvb, hvl, hva⟩ := hleft
      simp only [hvb] at hleft'
      obtain ⟨hwb, hwl, hwa⟩ := hleft'
      exact ⟨hwb, hwl.trans hvl, hwa.trans hva⟩
    | some b =>
      simp only [hb] at hleft hbatch ⊢
      obtain ⟨hcount, hpos, -⟩ := hbatch
      rw [hcount] at hle
      generalize s.inFlightCount p = m at hleft hle ⊢
      generalize v.inFlightCount (· == t) = n at hleft' hle ⊢
      split at hleft
      next hm =>
        obtain ⟨hvb, hvl, hva⟩ := hleft
        simp only [hvb, hvl, hva] at hleft'
        rw [hm, Nat.zero_add]
        exact hleft'
      next hm =>
        split at hleft
        next hall =>
          obtain ⟨hvb, hvl, hva⟩ := hleft
          simp only [hvb, hvl, hva] at hleft'
          rw [if_neg (by omega), if_pos (by omega)]
          exact hleft'
        next hpart =>
          obtain ⟨hvb, hvl, hva⟩ := hleft
          simp only [hvb, hvl, hva] at hleft'
          rw [if_neg (by omega)]
          by_cases hn : n = 0
          · rw [if_pos hn] at hleft'
            rw [if_neg (by omega), hn]
            exact hleft'
          · rw [if_neg hn] at hleft'
            by_cases hrest : n = b.remaining - m
            · rw [if_pos hrest] at hleft'
              rw [if_pos (by omega)]
              exact hleft'
            · rw [if_neg hrest] at hleft'
              rw [if_neg (by omega), Nat.sub_add_eq]
              exact hleft'

open Classical in
/-- A hold of a RUN member of `g` after the holds of `p`, all RUN members of `g`. -/
theorem State.HoldsLeave.add {g : GroupId} {p : TrunkId → Bool} {s v w : State} {t : TrunkId} (hbatch : s.BatchLaw)
    (h : s.HoldsLeave g p v) (hrun : (s.trunk t).runMember g = true) (ht : p t = false) (hw : v.HoldsLeave g (· == t) w) :
    s.HoldsLeave g (fun t' => p t' || t' == t) w := by
  obtain ⟨hleft, hentry, htrunk, hgroup, hpair, heq⟩ := h
  obtain ⟨hleft', hentry', htrunk', hgroup', hpair', heq'⟩ := hw
  have hnot : ¬∀ t' : TrunkId, (s.trunk t').runMember g = true → p t' = true := fun hall => by simp [hall t hrun] at ht
  have hgroup (g' : GroupId) : v.group g' = s.group g' := (hgroup g').trans (if_neg fun h => hnot h.2.2)
  have hpair (g' : GroupId) (t' : TrunkId) : v.pair g' t' = s.pair g' t' := (hpair g' t').trans (if_neg fun h => hnot h.2.2)
  have hself : v.trunk t = s.trunk t := (htrunk t).trans (if_neg (by simp [ht]))
  have hmembers : (∀ t' : TrunkId, (v.trunk t').runMember g = true → (t' == t) = true) ↔
      ∀ t' : TrunkId, (s.trunk t').runMember g = true → (p t' || t' == t) = true := by
    refine forall_congr' fun t' => ?_
    rw [htrunk]
    by_cases hp : p t' = true
    · simp [hp, Trunk.runMember]
    · simp [hp]
  have happlied (d : FullSlot) (hd : d.trunk = t) : v.appliedEntry d = s.appliedEntry d := by
    refine State.appliedEntry_congr ?_ ((hentry d).trans (if_neg (by simp [hd, ht])))
    rw [hleft.1]
    refine find?_filter_of_imp fun c hc => ?_
    simp [(Change.inFlightFor_iff.mp hc).1, hd, ht]
  refine ⟨hleft.add hbatch hleft', fun d => ?_, fun t' => ?_, fun g' => ?_, fun g' t' => ?_, ?_⟩
  · rw [hentry']
    by_cases hd : d.trunk = t
    · refine (if_pos (beq_iff_eq.mpr hd)).trans (Eq.trans ?_ (if_pos (by simp [hd])).symm)
      rw [happlied d hd, hd, hself]
    · refine (if_neg (mt beq_iff_eq.mp hd)).trans ?_
      rw [hentry]
      simp [hd]
  · rw [htrunk']
    by_cases h : t' = t
    · subst h
      rw [hself]
      simp
    · rw [htrunk]
      simp [h]
  · rw [hgroup', hgroup, hgroup]
    simp only [hmembers]
  · rw [hpair', hpair, hpair, hgroup]
    simp only [hmembers]
  · rw [heq', heq]

/-- Holds of no trunk leave everything, where a running group has a RUN member. -/
theorem State.holdsLeave_none {g : GroupId} {s : State} (h : (s.group g).state ≠ .stopped → s.hasRunMember g = true) :
    s.HoldsLeave g (fun _ => false) s := by
  have hcount : s.inFlightCount (fun _ => false) = 0 := by simp [State.inFlightCount]
  have hnone {α : Type} (a : α) (b : α) {g' : GroupId} :
      b = if g' = g ∧ (s.group g).state ≠ .stopped ∧ ∀ t : TrunkId, (s.trunk t).runMember g = true → false = true
        then a else b := by
    rw [if_neg]
    rintro ⟨-, hrun, hall⟩
    obtain ⟨t, ht⟩ := State.hasRunMember_iff.mp (h hrun)
    exact absurd (hall t ht) (by decide)
  refine ⟨⟨by simp, ?_⟩, fun d => rfl, fun t => rfl, fun g' => hnone _ _, fun g' t => hnone _ _, rfl⟩
  cases s.batch with
  | none => exact ⟨rfl, rfl, rfl⟩
  | some b =>
    dsimp only
    rw [if_pos hcount]
    exact ⟨rfl, rfl, rfl⟩

/-- The cascade over the trunks `ts` leaves what the holds of the RUN members among them leave. -/
theorem State.cascade_leaves {g : GroupId} {s : State} (hbatch : s.BatchLaw) (hone : s.OneEntryEach)
    (h : (s.group g).state ≠ .stopped → s.hasRunMember g = true) (ts : List TrunkId) (hts : ts.Nodup) :
    s.HoldsLeave g (fun t => decide (t ∈ ts) && (s.trunk t).runMember g) (ts.foldl (State.cascadeHold g) s) := by
  induction ts using List.reverseRecOn with
  | nil => simpa using State.holdsLeave_none h
  | append_singleton ts t ih =>
    obtain ⟨ht, hts⟩ : t ∉ ts ∧ ts.Nodup := List.nodup_cons.mp (List.nodup_append_comm.mp hts)
    have ih := ih hts
    have hmoves := State.Moves.foldl (fun s t => s.moves_cascadeHold g t) ts s
    obtain ⟨hbatch', hone'⟩ := kept_batchLaw.moves hmoves ⟨hbatch, hone⟩
    rw [List.foldl_concat]
    generalize ts.foldl (State.cascadeHold g) s = v at ih hbatch' hone' ⊢
    have hself : v.trunk t = s.trunk t := (ih.2.2.1 t).trans (if_neg (by simp [ht]))
    have hset : (fun t' => decide (t' ∈ ts ++ [t]) && (s.trunk t').runMember g) = fun t' =>
        decide (t' ∈ ts) && (s.trunk t').runMember g || t' == t && (s.trunk t).runMember g := by
      funext t'
      by_cases htt : t' = t <;> simp [htt, ht]
    unfold State.cascadeHold
    rw [hself, hset]
    by_cases hrun : (s.trunk t).runMember g = true
    · have hleave := State.holdTransmit_leaves hbatch' hone' t
      rw [hself, (Trunk.runMember_iff.mp hrun).1] at hleave
      rw [if_pos hrun]
      simpa [hrun] using ih.add hbatch hrun (by simp [ht]) hleave
    · rw [if_neg hrun]
      simpa [hrun] using ih

/-- The whole cascade: every RUN member is held, and the group, where it runs, stops. -/
theorem State.cascadeAll_leaves {g : GroupId} {s : State} (hbatch : s.BatchLaw) (hone : s.OneEntryEach)
    (h : (s.group g).state ≠ .stopped → s.hasRunMember g = true) (hrun : (s.group g).state ≠ .stopped) :
    s.HoldsLeave g (fun t => (s.trunk t).runMember g) (allTrunks.foldl (State.cascadeHold g) s) ∧
      ((allTrunks.foldl (State.cascadeHold g) s).group g).state = .stopped := by
  have hleave := State.cascade_leaves hbatch hone h allTrunks (List.nodup_finRange 8)
  have hset : (fun t => decide (t ∈ allTrunks) && (s.trunk t).runMember g) = fun t => (s.trunk t).runMember g := by
    funext t
    simp [allTrunks]
  rw [hset] at hleave
  have hgroup := (hleave.2.2.2.1 g).trans (if_pos ⟨rfl, hrun, fun _ ht => ht⟩)
  exact ⟨hleave, congrArg Group.state hgroup⟩

/-- Settles O38: the three cases of `expire_eq`; the cascade by `cascadeAll_leaves`. -/
theorem graceExpiryTakesFirstCase : Obligations.GraceExpiryTakesFirstCase := by
  intro s g hs hstate hgrace htiming hbatch hone v c standbyReady
  have hdue : (s.group g).expiryDue = true := Group.expiryDue_iff.mpr ⟨hgrace, hstate⟩
  have hexec : exec (.graceExpiry g) s = .next (s.expire g).finish := by
    rw [exec_graceExpiry, event_of_settled hs, State.graceExpiry, if_pos hdue]
  have hready : standbyReady ↔ s.standbyAligned g = true := State.standbyAligned_iff.symm
  rw [hexec, State.expire_eq]
  refine ⟨fun h => ?_, fun h hstop => ?_, fun h hpolicy => ?_⟩
  · rw [if_pos ⟨h.1, hready.mp h.2⟩, State.modifyGroup_modifyGroup]
    rfl
  · rw [if_neg fun hn => h ⟨hn.1, hready.mpr hn.2⟩, if_pos hstop]
    have hrun : ((s.dropGrace g).group g).state ≠ .stopped := by
      rw [State.dropGrace_state]
      rcases hstate with hstate | hstate <;> simp [hstate]
    obtain ⟨hleave, hstopped⟩ := State.cascadeAll_leaves (s := s.dropGrace g) hbatch hone
      (fun hn => (htiming g).2.2.2.mp (by rwa [State.dropGrace_state] at hn)) hrun
    exact ⟨_, hleave, hstopped, rfl⟩
  · rw [if_neg fun hn => h ⟨hn.1, hready.mpr hn.2⟩, if_neg hpolicy, State.modifyGroup_modifyGroup]

end Sys2Proof.Machine
end

section
/-! PROOFS. The entry to HOLDOVER, the boundaries with their selections, and the marker that aligns (R19, R48, R50 to R55, R62,
R63, R70 to R73). -/

namespace Sys2Proof.Machine

/-! ### Entry to HOLDOVER -/

theorem Group.heldPeriod_eq (u : Group) :
    u.heldPeriod = match u.lastLocked with
      | some v => 6 * v.toNat
      | none => u.config.rate.period := rfl

theorem Rate.period_pos (r : Rate) : 0 < r.period := by cases r <;> decide

theorem Group.heldPeriod_pos {u : Group} (h : u.lastLocked ≠ some 0#16) : 0 < u.heldPeriod := by
  unfold Group.heldPeriod
  cases hv : u.lastLocked with
  | none => exact u.config.rate.period_pos
  | some v =>
    have hne : v.toNat ≠ 0 := fun h0 => h (hv.trans (congrArg some (BitVec.eq_of_toNat_eq h0)))
    dsimp only
    omega

/-- The first multiple of a period after a boundary that is later than the entry. -/
theorem Group.firstHoldover_bounds {u : Group} {b : Boundary} {entry : Time} (h : u.lastLocked ≠ some 0#16)
    (hb : u.previous = some b) (hentry : b.time ≤ entry) :
    entry < u.firstHoldover entry ∧ u.firstHoldover entry ≤ entry + u.heldPeriod ∧
      ∃ n : Nat, u.firstHoldover entry = b.time + n * u.heldPeriod := by
  have hfirst : u.firstHoldover entry = b.time + u.heldPeriod * ((entry - b.time) / u.heldPeriod + 1) := by
    unfold Group.firstHoldover
    rw [hb]
  have hlater := Nat.lt_mul_div_succ (entry - b.time) (Group.heldPeriod_pos h)
  have hearlier := Nat.mul_div_le (entry - b.time) u.heldPeriod
  rw [hfirst]
  refine ⟨by simp only [Time] at hlater hentry ⊢; omega, ?_, _, by rw [Nat.mul_comm]⟩
  rw [Nat.mul_succ]
  simp only [Time] at hentry ⊢
  omega

/-- Settles O28. -/
theorem holdoverEntry : Obligations.HoldoverEntry := by
  intro s g origin entry hlocked hprevious period
  refine ⟨(s.group g).firstHoldover entry, rfl, fun h => ?_, fun b hb => ?_⟩
  · unfold Group.firstHoldover
    rw [h]
    rfl
  · exact Group.firstHoldover_bounds hlocked hb (hprevious b hb)

/-! ### Selection -/

/-- Settles O30: the branches of the selection, and of whether it slips. -/
theorem selectionFollowsLag : Obligations.SelectionFollowsLag := by
  intro k p take
  have hlast (older : List Frame) (newest : Frame) (h : k.store.frames = older ++ [newest]) :
      k.store.frames.getLast? = some newest := by rw [h, List.getLast?_concat]
  have hselect (h : k.rx.state = .aligned) : p.select k =
      match k.store.frames.getLast?, p.mark with
      | none, _ => { p with snapshot := none }
      | some newest, none => if k.store.frames.length = 1 then take newest.seq else take (newest.seq - 1#16)
      | some newest, some m =>
          if lag newest.seq m = 0 then { take m with repeats := satAdd p.repeats 1 }
          else if lag newest.seq m ≤ 2 then take (m + 1#16)
          else { take (newest.seq - 1#16) with drops := satAdd p.drops (lag newest.seq m - 2) } :=
    if_pos h
  refine ⟨?_, fun h => if_neg h, fun ha hempty hm => ?_, fun older newest ha hframes => ⟨fun hm hold => ?_, fun hm hold => ?_, fun m hm => ?_⟩⟩
  · constructor
    · intro h
      unfold Pair.slips at h
      split at h
      next newest m ha hn hm =>
        obtain ⟨older, hframes⟩ := List.getLast?_eq_some_iff.mp hn
        exact ⟨ha, older, newest, m, hframes, hm, (Bool.or_eq_true_iff.mp h).imp of_decide_eq_true of_decide_eq_true⟩
      · exact absurd h (by decide)
    · rintro ⟨ha, older, newest, m, hframes, hm, hlag⟩
      unfold Pair.slips
      rw [ha, hlast older newest hframes, hm]
      exact Bool.or_eq_true_iff.mpr (hlag.imp decide_eq_true decide_eq_true)
  · rw [hselect ha, hempty, hm]
    rfl
  · rw [hselect ha, hlast older newest hframes, hm]
    exact if_pos (by rw [hframes, hold]; rfl)
  · rw [hselect ha, hlast older newest hframes, hm]
    exact if_neg (by simpa [hframes] using hold)
  · rw [hselect ha, hlast older newest hframes, hm]
    rfl

/-! ### Boundaries -/

theorem State.selectFrames_eq (s : State) (g : GroupId) :
    s.selectFrames g =
      { s.mapPairs fun g' t p => if g' = g then p.select (s.trunk t) else p with
        attention :=
          if allTrunks.any fun t => (s.pair g t).slips (s.trunk t) then s.attention.raise (.slip g) else s.attention } := by
  unfold State.selectFrames
  dsimp only
  split
  · rfl
  · rfl

theorem Group.longFrame_iff {b : Boundary} {u : Group} :
    u.longFrame b = true ↔
      ∃ q, u.previous = some q ∧ u.config.longLimit ≠ 0#16 ∧ u.config.longLimit < interval q b := by
  unfold Group.longFrame
  cases u.previous <;> simp

theorem Group.recordBoundary_of_none {u : Group} (h : u.previous = none) (b : Boundary) :
    u.recordBoundary b = { u with previous := some b, due := none } := by
  unfold Group.recordBoundary
  rw [h]

theorem Group.recordBoundary_of_some {u : Group} {q : Boundary} (h : u.previous = some q) (b : Boundary) :
    u.recordBoundary b =
      { u with
        previous := some b
        due := none
        meterCurrent := interval q b
        meterMaximum := if u.meterMaximum < interval q b then interval q b else u.meterMaximum
        longCount := if u.config.longLimit ≠ 0#16 ∧ u.config.longLimit < interval q b then satAdd u.longCount 1
                     else u.longCount
        lastLocked := if b.cause ≠ none ∧ b.cause = q.cause ∧ interval q b ≠ 0#16 then some (interval q b)
                      else u.lastLocked } := by
  have hlong : u.longFrame b = true ↔ u.config.longLimit ≠ 0#16 ∧ u.config.longLimit < interval q b := by
    rw [Group.longFrame_iff, h]
    simp
  have hcause : (b.cause.isSome && b.cause == q.cause && interval q b != 0#16) = true ↔
      b.cause ≠ none ∧ b.cause = q.cause ∧ interval q b ≠ 0#16 := by
    simp [Option.isSome_iff_ne_none, and_assoc]
  unfold Group.recordBoundary
  rw [h]
  dsimp only
  simp only [hlong, hcause]

/-- What a boundary leaves (R50, R51, R62, R63, R73). -/
theorem State.boundary_leaves (s : State) (g : GroupId) (b : Boundary) : s.BoundaryLeaves g b (s.boundary g b) := by
  have hpairs : (s.boundary g b).pairs = (s.mapPairs fun g' t p => if g' = g then p.select (s.trunk t) else p).pairs := by
    simp only [State.boundary, State.causeStarts, apply_ite State.pairs, State.raise_fields, ite_self,
      State.modifyGroup_fields, State.selectFrames_eq]
  have hattention : (s.boundary g b).attention =
      if (s.group g).longFrame b then (s.selectFrames g).attention.raise (.longFrame g) else (s.selectFrames g).attention := by
    unfold State.boundary State.causeStarts
    dsimp only
    split
    · rfl
    · rfl
  refine ⟨fun g' t => ?_, fun t => ?_, fun g' h => ?_, ?_, ?_, ?_⟩
  · have hpair : (s.boundary g b).pair g' t =
        (s.mapPairs fun g' t p => if g' = g then p.select (s.trunk t) else p).pair g' t :=
      congrArg (fun ps : Vector (Vector Pair 8) 4 => ps[g'][t]) hpairs
    rw [hpair, State.pair_mapPairs]
    split
    next h => rw [h]
    · rfl
  · rw [State.boundary_trunk]
    simp only [Trunk.runMember_iff]
  · rw [State.boundary_group, if_neg h]
  · rw [State.boundary_group, if_pos rfl]
    cases hq : (s.group g).previous with
    | none => exact Group.recordBoundary_of_none hq b
    | some q => exact Group.recordBoundary_of_some hq b
  · refine ⟨(s.group g).longFrame b, Group.longFrame_iff, allTrunks.any fun t => (s.pair g t).slips (s.trunk t), ?_, ?_⟩
    · simp [allTrunks]
    · rw [hattention, State.selectFrames_eq]
  · obtain ⟨_, _, _, _, h⟩ := State.boundary_eq g b s
    rw [h]

theorem Group.generatorPeriod_eq (u : Group) :
    u.generatorPeriod = if u.state = .holdover then u.heldPeriod else u.config.rate.period := by
  unfold Group.generatorPeriod
  cases u.state <;> rfl

/-- A boundary without a cause leaves the generator period. -/
theorem Group.recordBoundary_generatorPeriod (p : Time) (u : Group) :
    (u.recordBoundary { time := p, cause := none }).generatorPeriod = u.generatorPeriod := by
  have hlocked : (u.recordBoundary { time := p, cause := none }).lastLocked = u.lastLocked := by
    cases hq : u.previous with
    | none => rw [Group.recordBoundary_of_none hq]
    | some q =>
      simp [Group.recordBoundary_of_some hq]
  rw [Group.generatorPeriod_eq, Group.generatorPeriod_eq, Group.heldPeriod_eq, Group.heldPeriod_eq, hlocked,
    Group.recordBoundary_state, Group.recordBoundary_config]

theorem State.takeBoundary_of_none {s : State} {g : GroupId}
    (h : ∀ t : TrunkId, (s.trunk t).runMember g = true → (s.trunk t).tx.startDue = false) (b : Boundary) :
    s.takeBoundary g b = s.boundary g b := by
  rw [State.takeBoundary, State.settleStarts_of_none h]

/-- Settles O29: `boundary_leaves`, with no start of the group's RUN members to settle. -/
theorem boundariesAreTaken : Obligations.BoundariesAreTaken := by
  refine ⟨fun s g b hs hdue hstarts => ⟨s.boundary g b, s.boundary_leaves g b, ?_⟩, fun s g p hs hgenerator hstarts => ?_⟩
  · have hbody : s.dueBoundary g = s.boundary g b := by
      unfold State.dueBoundary
      rw [hdue]
      exact State.takeBoundary_of_none hstarts b
    rw [exec_groupBoundary, event_of_settled hs, hbody]
  · refine ⟨(s.advance p).boundary g { time := p, cause := none }, State.boundary_leaves _ g _, ?_⟩
    have hbody : s.generatorBoundary g = s.generatorFires g p := by
      unfold State.generatorBoundary
      rw [hgenerator]
    have hperiod : (((s.advance p).boundary g { time := p, cause := none }).group g).generatorPeriod =
        (s.group g).generatorPeriod := by
      rw [State.boundary_group, if_pos rfl, State.advance_group, Group.recordBoundary_generatorPeriod]
    rw [exec_generatorBoundary, event_of_settled hs, hbody, State.generatorFires,
      State.takeBoundary_of_none (s := s.advance p) hstarts]
    unfold State.modifyGroup
    dsimp only
    rw [hperiod, Group.generatorPeriod_eq]
    rfl

/-! ### Alignment -/

/-- What the report "becomes ALIGNED" makes of the group (R54, R55). -/
theorem State.becomesAligned_eq (s : State) (t : TrunkId) :
    s.becomesAligned t =
      let g := (s.trunk t).group
      let u := s.group g
      if u.config.primary = some t ∧ u.state = .acquiring then s.enterLocked g
      else if u.config.primary = some t ∧ (u.state = .holdover ∨ u.state = .degraded) then
        (s.raise (.refChange g)).enterLocked g
      else if u.config.primary ≠ some t ∧ u.config.standby = some t ∧
          ((u.state = .holdover ∧ u.origin = .standby) ∨ u.state = .degraded) then s.enterStandby g
      else s := by
  unfold State.becomesAligned
  dsimp only
  by_cases hp : (s.group (s.trunk t).group).config.primary = some t
  · rw [if_pos hp]
    cases (s.group (s.trunk t).group).state <;> simp [hp]
  · rw [if_neg hp]
    by_cases hj : (s.group (s.trunk t).group).config.standby = some t
    · rw [if_pos hj]
      cases (s.group (s.trunk t).group).state <;> simp [hp, hj]
    · simp [hp, hj]

theorem State.seeMarker_of_hunt {s : State} {t : TrunkId} (h : (s.trunk t).rx.state = .hunt) (position : Nat) :
    s.seeMarker t position =
      if ∃ c, (s.trunk t).rx.candidate = some c ∧ position = c + (s.trunk t).format.bits then
        (s.modifyTrunk t fun k =>
          { k with
            rx := { k.rx with state := .aligned, candidate := none, missCount := 0 }
            store := { k.store with filling := some [] } }).becomesAligned t
      else s.modifyTrunk t fun k => { k with rx := { k.rx with candidate := some position } } := by
  unfold State.seeMarker
  rw [h]
  dsimp only
  refine if_congr ?_ rfl rfl
  cases (s.trunk t).rx.candidate <;> simp

theorem State.seeMarker_of_other {s : State} {t : TrunkId} (h : (s.trunk t).rx.state ≠ .hunt) (position : Nat) :
    s.seeMarker t position = s := by
  unfold State.seeMarker
  split
  next hunt => exact absurd hunt h
  · rfl
  · rfl

/-- Settles O31. -/
theorem markerAlignsOrBecomesCandidate : Obligations.MarkerAlignsOrBecomesCandidate := by
  refine ⟨fun s t position hs hstate => ?_, fun s t position hs hstate hnone => ?_, fun s t c hs hstate hc => ?_⟩
  · rw [exec_huntMarker, event_of_settled hs, State.seeMarker_of_other hstate]
  · rw [exec_huntMarker, event_of_settled hs, State.seeMarker_of_hunt hstate, if_neg]
    rintro ⟨c, hc, hposition⟩
    exact hnone c hc hposition
  · intro g u v enter
    have hg : (v.trunk t).group = g := by simp [v, g]
    have hbody : s.seeMarker t (c + (s.trunk t).format.length * (s.trunk t).format.width.bits) = v.becomesAligned t :=
      (State.seeMarker_of_hunt hstate _).trans (if_pos ⟨c, hc, rfl⟩)
    rw [exec_huntMarker, event_of_settled hs, hbody, State.becomesAligned_eq]
    dsimp only
    rw [hg]
    rfl

end Sys2Proof.Machine
end

section
/-! PROOFS. Receive frame ends with their captures, losses of alignment, and the millisecond step (R20 to R23, R34, R38, R47, R53,
R56, R67, R128 to R130, R150, R155, R162). -/

namespace Sys2Proof.Machine

/-! ### The slots of a frame and what a frame end stores in them -/

theorem frameSlots_eq_take (n : Nat) : frameSlots n = (List.finRange 40).take n := by
  by_cases h : n < 40
  · have hall : ∀ n < 40, frameSlots n = (List.finRange 40).take n := by decide +kernel
    exact hall n h
  · rw [List.take_of_length_le (by rw [List.length_finRange]; omega)]
    exact List.filter_eq_self.mpr fun d _ => decide_eq_true (by omega)

theorem frameSlots_length_min (n : Nat) : (frameSlots n).length = min n 40 := by
  rw [frameSlots_eq_take, List.length_take, List.length_finRange]

theorem frameSlots_getElem? {n : Nat} {d : SlotId} (h : d.val < n) : (frameSlots n)[d.val]? = some d := by
  rw [frameSlots_eq_take, List.getElem?_take_of_lt h, List.getElem?_eq_getElem (by simp), List.getElem_finRange]
  rfl

theorem Trunk.frameValues_getElem? (k : Trunk) (line : LineBits) {d : SlotId} (h : d.val < k.format.length) :
    (k.frameValues line)[d.val]? =
      some (if inSet k.rxMask.active d then receivedValue k.format.width line d else k.format.idle) := by
  rw [Trunk.frameValues, List.getElem?_map, frameSlots_getElem? h, Option.map_some]

/-! ### Captures -/

theorem State.keepCapture_of_room {s : State} (h : s.tap.queue.length < 64) (t : TrunkId) (v : Value) :
    s.keepCapture t v = { s with tap := { s.tap with queue := s.tap.queue ++ [v] } } := if_pos h

theorem State.keepCapture_of_full {s : State} (h : 64 ≤ s.tap.queue.length) (t : TrunkId) (v : Value) :
    s.keepCapture t v =
      let s' := { s with tap := { s.tap with overflow := satAdd s.tap.overflow 1, dropLogged := true } }.raise .tapOverflow
      if s.tap.dropLogged then s' else s'.writeRecord (.tapOverflow t) := if_neg (Nat.not_lt.mpr h)

/-- A capture changes the tap, the attention unit and the log alone. -/
theorem State.capture_eq (s : State) (t : TrunkId) (values : List Value) :
    ∃ tap attention log, s.capture t values = { s with tap := tap, attention := attention, log := log } := by
  have hkeep (v : Value) : ∃ tap attention log,
      s.keepCapture t v = { s with tap := tap, attention := attention, log := log } := by
    by_cases hroom : s.tap.queue.length < 64
    · rw [State.keepCapture_of_room hroom]
      exact ⟨_, _, _, rfl⟩
    · rw [State.keepCapture_of_full (Nat.not_lt.mp hroom)]
      dsimp only
      split
      · exact ⟨_, _, _, rfl⟩
      · rw [State.writeRecord_eq]
        exact ⟨_, _, _, rfl⟩
  unfold State.capture
  split
  · split
    · split
      next v _ =>
        obtain ⟨tap, attention, log, h⟩ := hkeep (convert (s.trunk t).format.width .w16 v)
        dsimp only
        rw [h]
        exact ⟨_, _, _, rfl⟩
      · exact ⟨_, _, _, rfl⟩
    · exact ⟨_, _, _, rfl⟩
  · exact ⟨_, _, _, rfl⟩

theorem State.capture_of_untapped {s : State} {t : TrunkId}
    (h : ¬(s.tap.active = true ∧ ∃ source, s.tap.source = some source ∧ source.trunk = t)) (values : List Value) :
    s.capture t values = s := by
  unfold State.capture
  split
  next source hsource =>
    refine if_neg fun hn => h ?_
    obtain ⟨hactive, htrunk⟩ := Bool.and_eq_true_iff.mp hn
    exact ⟨hactive, source, hsource, beq_iff_eq.mp htrunk⟩
  · rfl

theorem State.capture_of_tapped {s : State} {t : TrunkId} {source : FullSlot} {values : List Value} {v : Value}
    (hactive : s.tap.active = true) (hsource : s.tap.source = some source) (htrunk : source.trunk = t)
    (hv : values[source.slot.val]? = some v) :
    s.capture t values =
      let u := s.keepCapture t (convert (s.trunk t).format.width .w16 v)
      { u with tap := { u.tap with remaining := u.tap.remaining.countDown } } := by
  unfold State.capture
  rw [hsource]
  dsimp only
  rw [if_pos (by simp [hactive, htrunk]), hv]

/-! ### Frame ends -/

/-- A frame end at its trunk and its tap, before it causes a boundary. -/
def State.stored (t : TrunkId) (time : Time) (marker : Bool) (line : LineBits) (s : State) : State :=
  (s.advance time).modifyTrunk t fun k =>
    { k with
      rx := { k.rx with missCount := if marker then 0 else k.rx.missCount + 1 }
      rxMask := k.rxMask.activate
      store := k.store.push ((s.trunk t).frameValues line) }

theorem exec_receiveFrameEnd_of_completes {s : State} {t : TrunkId} {time : Time} {marker : Bool} (hs : s.Settled)
    (haligned : (s.trunk t).rx.state = .aligned) (hmarker : marker = true ∨ (s.trunk t).rx.missCount ≤ 1)
    (hdue : (s.group (s.trunk t).group).follows t = true → (s.group (s.trunk t).group).due = none) (line : LineBits) :
    exec (.receiveFrameEnd t time marker line) s =
      .next (State.finish (((s.stored t time marker line).capture t ((s.trunk t).frameValues line)).causeBoundary t)) := by
  have hcompletes : (s.trunk t).rx.completes marker = true :=
    Receive.completes_iff.mpr ⟨haligned, hmarker.imp_right Nat.lt_succ_of_le⟩
  rw [exec_receiveFrameEnd, event_of_settled hs, State.frameEnd, if_pos hcompletes, State.settleFollower_of_none hdue]
  rfl

theorem State.stored_trunk (s : State) (t t' : TrunkId) (time : Time) (marker : Bool) (line : LineBits) :
    (s.stored t time marker line).trunk t' =
      if t' = t then
        { s.trunk t with
          rx := { (s.trunk t).rx with missCount := if marker then 0 else (s.trunk t).rx.missCount + 1 }
          rxMask := (s.trunk t).rxMask.activate
          store := (s.trunk t).store.push ((s.trunk t).frameValues line) }
      else s.trunk t' :=
  State.trunk_modifyTrunk ..

theorem State.causeBoundary_eq (s : State) (t : TrunkId) :
    ∃ groups, s.causeBoundary t = { s with groups := groups } ∧ ∀ g : GroupId, (s.causeBoundary t).group g =
      if g = (s.trunk t).group ∧ (s.group (s.trunk t).group).follows t = true then
        { s.group g with due := some { time := s.now, cause := some t } }
      else s.group g := by
  unfold State.causeBoundary
  by_cases hf : (s.group (s.trunk t).group).follows t = true
  · refine ⟨_, if_pos hf, fun g => ?_⟩
    rw [if_pos hf, State.group_modifyGroup]
    by_cases hg : g = (s.trunk t).group
    · rw [if_pos hg, if_pos ⟨hg, hf⟩, hg]
    · rw [if_neg hg, if_neg (mt And.left hg)]
  · refine ⟨_, if_neg hf, fun g => ?_⟩
    rw [if_neg hf, if_neg (mt And.right hf)]

theorem State.causeBoundary_fields (s : State) (t : TrunkId) :
    (s.causeBoundary t).tap = s.tap ∧ (s.causeBoundary t).attention = s.attention ∧ (s.causeBoundary t).log = s.log ∧
      (s.causeBoundary t).trunk t = s.trunk t := by
  obtain ⟨groups, h, -⟩ := s.causeBoundary_eq t
  rw [h]
  exact ⟨rfl, rfl, rfl, rfl⟩

/-- Settles O32. -/
theorem frameEndCompletesFrame : Obligations.FrameEndCompletesFrame := by
  intro s t time marker line hs haligned hmarker hdue
  obtain ⟨tap, attention, log, hcapture⟩ := (s.stored t time marker line).capture_eq t ((s.trunk t).frameValues line)
  refine ⟨_, (s.trunk t).frameValues line, exec_receiveFrameEnd_of_completes hs haligned hmarker hdue line, ?_, fun d hd => ?_, ?_⟩
  · rw [Trunk.frameValues, List.length_map, frameSlots_length_min]
  · have hvalue := (s.trunk t).frameValues_getElem? line hd
    split
    next hin =>
      rw [if_pos hin] at hvalue
      exact ⟨_, hvalue, receivedValue_getLsbD _ line d⟩
    next hin => rwa [if_neg hin] at hvalue
  · rw [hcapture]
    generalize hv : ({ s.stored t time marker line with tap := tap, attention := attention, log := log } : State) = v
    have htrunk (t' : TrunkId) : v.trunk t' = (s.stored t time marker line).trunk t' := by rw [← hv]; rfl
    have hgroup (g : GroupId) : v.group g = s.group g := by rw [← hv]; rfl
    have hown : (v.trunk t).group = (s.trunk t).group := by rw [htrunk, State.stored_trunk, if_pos rfl]
    obtain ⟨groups, hgroups, hcause⟩ := v.causeBoundary_eq t
    have hnow : v.now = max s.now time := by rw [← hv]; rfl
    simp only [hown, hgroup, hnow, Group.follows_iff] at hcause
    refine ⟨fun t' => ?_, fun g => ?_, ?_⟩
    · rw [hgroups]
      exact (htrunk t').trans (s.stored_trunk t t' time marker line)
    · rw [hcause]
      refine if_congr (and_congr_right fun hg => ?_) rfl rfl
      rw [hg]
    · rw [hgroups, ← hv]
      rfl

/-- Settles O33. -/
theorem frameEndCaptures : Obligations.FrameEndCaptures := by
  intro s t time marker line hs haligned hmarker hdue
  refine ⟨_, exec_receiveFrameEnd_of_completes hs haligned hmarker hdue line, ?_⟩
  refine ⟨fun huntapped => ?_, fun source f hactive hsource hsourceTrunk hslot hlast => ?_⟩
  · have hcapture := State.capture_of_untapped (s := s.stored t time marker line) huntapped ((s.trunk t).frameValues line)
    obtain ⟨htap, hattention, hlog, -⟩ := State.causeBoundary_fields (s.stored t time marker line) t
    rw [hcapture]
    exact ⟨htap, hattention, hlog⟩
  · intro remaining
    generalize hw : (s.stored t time marker line).capture t ((s.trunk t).frameValues line) = w at hlast ⊢
    obtain ⟨htap, hattention, hlog, htrunk⟩ := w.causeBoundary_fields t
    have hstore : (w.trunk t).store = (s.trunk t).store.push ((s.trunk t).frameValues line) := by
      obtain ⟨tap, attention, log, hcapture⟩ := (s.stored t time marker line).capture_eq t ((s.trunk t).frameValues line)
      have htrunk : w.trunk t = (s.stored t time marker line).trunk t := by rw [← hw, hcapture]; rfl
      rw [htrunk, State.stored_trunk, if_pos rfl]
    have hf : f.values = (s.trunk t).frameValues line := by
      rw [htrunk, hstore, FrameStore.push, List.getLast?_concat] at hlast
      rw [← Option.some.inj hlast]
    obtain ⟨v, hv⟩ : ∃ v, ((s.trunk t).frameValues line)[source.slot.val]? = some v :=
      ⟨_, (s.trunk t).frameValues_getElem? line hslot⟩
    have hwidth : ((s.stored t time marker line).trunk t).format.width = (s.trunk t).format.width := by
      rw [State.stored_trunk, if_pos rfl]
    have hcapture := State.capture_of_tapped (s := s.stored t time marker line) hactive hsource hsourceTrunk hv
    have hremaining : remaining = s.tap.remaining.countDown := by
      change (match s.tap.remaining with | .continuous => _ | .frames n => _) = _
      cases s.tap.remaining <;> rfl
    rw [hw, hwidth] at hcapture
    rw [htap, hattention, hlog]
    refine ⟨v, by rw [hf]; exact hv, fun hroom => ?_, fun hfull => ?_⟩
    · rw [hcapture, State.keepCapture_of_room (s := s.stored t time marker line) hroom, hremaining]
      exact ⟨rfl, rfl, rfl⟩
    · rw [hcapture, State.keepCapture_of_full (s := s.stored t time marker line) hfull, hremaining, ← satAdd_one_8]
      by_cases hlogged : s.tap.dropLogged = true
      · have hlogged' : (s.stored t time marker line).tap.dropLogged = true := hlogged
        simp only [if_pos hlogged']
        exact ⟨rfl, fun _ => ⟨rfl, rfl⟩, fun h => absurd hlogged (by simp [h])⟩
      · have hlogged' : ¬(s.stored t time marker line).tap.dropLogged = true := hlogged
        simp only [if_neg hlogged', State.writeRecord_eq]
        exact ⟨rfl, fun h => absurd h hlogged, fun _ => ⟨rfl, rfl⟩⟩

/-! ### Losses -/

theorem exec_lossOfAlignment_of_due {s : State} {t : TrunkId} (hs : s.Settled) (haligned : (s.trunk t).rx.state = .aligned)
    (hmiss : 2 ≤ (s.trunk t).rx.missCount)
    (hdue : (s.group (s.trunk t).group).follows t = true → (s.group (s.trunk t).group).due = none) (time : Time) :
    exec (.lossOfAlignment t time) s = .next (State.finish (((s.advance time).loseAlignment t).reportLoss t)) := by
  have hloses : (s.trunk t).rx.losesAlignment = true := by simp [Receive.losesAlignment, haligned, hmiss]
  rw [exec_lossOfAlignment, event_of_settled hs, State.loss, if_pos hloses, State.settleFollower_of_none hdue]

/-- Settles O34: `reportLoss_eq`, and `loseAlignment` by its tables. -/
theorem lossOfAlignment : Obligations.LossOfAlignment := by
  intro s t time hs haligned hmiss hdue
  obtain ⟨u, hu, hreport⟩ := (s.advance time).reportLoss_eq t
  refine ⟨u, fun t' => ?_, fun g t' => ?_, by rw [hu]; rfl, ?_⟩
  · have htrunk : u.trunk t' = ((s.advance time).loseAlignment t).trunk t' := by rw [hu]; rfl
    rw [htrunk, State.loseAlignment_eq, State.raise_trunk, State.leaveAlignment_trunk, Receive.lost, satAdd_one_16]
    rfl
  · have hpair : u.pair g t' = ((s.advance time).loseAlignment t).pair g t' := by rw [hu]; rfl
    rw [hpair, State.loseAlignment_eq, State.raise_pair, State.leaveAlignment_pair]
    rfl
  · rw [exec_lossOfAlignment_of_due hs haligned hmiss hdue]
    intro g k followed
    have hfollows : ((s.advance time).group ((s.advance time).trunk t).group).follows t = true ↔
        (k.state = .locked ∧ k.config.primary = some t) ∨ (k.state = .standby ∧ k.config.standby = some t) :=
      Group.follows_iff
    by_cases hprimary : k.state = .locked ∧ k.config.primary = some t
    · have horigin : ((s.advance time).group ((s.advance time).trunk t).group).holdoverOrigin = .primary :=
        if_neg (by change ¬k.state = _; simp [hprimary.1])
      have hfollowed : followed = some .primary := if_pos hprimary
      rw [hfollowed]
      simp only [if_pos (hfollows.mpr (.inl hprimary)), horigin] at hreport
      exact hreport.symm.imp (fun h => by rw [h]; rfl) fun h => by rw [h]; rfl
    · by_cases hstandby : k.state = .standby ∧ k.config.standby = some t
      · have horigin : ((s.advance time).group ((s.advance time).trunk t).group).holdoverOrigin = .standby :=
          if_pos hstandby.1
        have hfollowed : followed = some .standby := (if_neg hprimary).trans (if_pos hstandby)
        rw [hfollowed]
        simp only [if_pos (hfollows.mpr (.inr hstandby)), horigin] at hreport
        exact hreport.symm.imp (fun h => by rw [h]; rfl) fun h => by rw [h]; rfl
      · have hfollowed : followed = none := (if_neg hprimary).trans (if_neg hstandby)
        rw [hfollowed]
        simp only [if_neg (mt hfollows.mp (not_or.mpr ⟨hprimary, hstandby⟩)), or_self] at hreport
        rw [hreport]

/-! ### Milliseconds -/

theorem graceStep_eq (timer : Option (BitVec 16)) :
    graceStep timer = timer.map fun n => if n = 0#16 then 0#16 else n - 1#16 := by
  cases timer <;> rfl

/-- Settles O37. -/
theorem millisecondStepAdvancesTimers : Obligations.MillisecondStepAdvancesTimers := by
  intro s hs
  refine ⟨s.millisecond, fun g => ?_, rfl, ?_⟩
  · have hgroup : s.millisecond.group g = { s.group g with graceTimer := graceStep (s.group g).graceTimer } := by
      simp only [State.millisecond, State.group, Fin.getElem_fin, Vector.getElem_ofFn]
    rw [hgroup, graceStep_eq]
  · rw [exec_millisecondStep, event_of_settled hs]

end Sys2Proof.Machine
end

section
/-! PROOFS. The outcome of a slot, and the transmit frame start with the frame it assembles (R28, R38, R39, R84 to R91, R113, R117,
R138). -/

namespace Sys2Proof.Machine

/-! ### The outcome of a slot -/

theorem State.linkValue_eq (s : State) (t : TrunkId) (source : FullSlot) :
    s.linkValue t source =
      match (s.pair (s.trunk t).group source.trunk).snapshot with
      | none => (s.trunk t).format.idle
      | some f =>
          if f.length ≤ source.slot.val then (s.trunk t).format.idle
          else (f.values[source.slot.val]?.map (convert f.width (s.trunk t).format.width)).getD (s.trunk t).format.idle := by
  unfold State.linkValue
  dsimp only
  cases (s.pair (s.trunk t).group source.trunk).snapshot with
  | none => rfl
  | some f =>
    dsimp only [Snapshot.slotValue]
    by_cases h : source.slot.val < f.length
    · rw [if_pos h, if_neg (Nat.not_le.mpr h)]
    · rw [if_neg h, if_pos (Nat.not_lt.mp h)]
      rfl

/-- The three tests in order (R85 to R87), the third left to `modeOutcome`. -/
theorem State.slotOutcome_eq (s : State) (t : TrunkId) (d : SlotId) :
    s.slotOutcome t d =
      if inSet (s.trunk t).txMask.active d = false then .undriven
      else if (s.group (s.trunk t).group).state = .degraded ∧ (s.group (s.trunk t).group).config.policy = .mute then
        .value (s.trunk t).format.idle
      else if (s.group (s.trunk t).group).state = .degraded ∧ (s.group (s.trunk t).group).config.policy = .hold then
        .value ((s.trunk t).heldValue d)
      else s.modeOutcome t d := by
  unfold State.slotOutcome Group.policyInEffect
  simp only [Bool.not_eq_true', Bool.and_eq_true, beq_iff_eq]

/-- Settles O36. -/
theorem slotOutcomeByFirstTest : Obligations.SlotOutcomeByFirstTest := by
  intro s t d k g held
  rw [State.slotOutcome_eq, State.modeOutcome]
  cases s.entry ⟨t, d⟩ with
  | link source =>
    dsimp only
    rw [State.linkValue_eq]
    cases (s.pair (s.trunk t).group source.trunk).snapshot with
    | none => rfl
    | some f =>
      dsimp only [k]
      rw [apply_ite SlotOutcome.value]
      rfl
  | opened => rfl
  | force v => rfl
  | hold => rfl
  | play => rfl

theorem State.entry_of_playout {s : State} {t : TrunkId} {d : SlotId} (h : s.slotOutcome t d = .playout) :
    s.entry ⟨t, d⟩ = .play := by
  rw [State.slotOutcome_eq] at h
  split at h
  · exact absurd h (by simp)
  · split at h
    · exact absurd h (by simp)
    · split at h
      · exact absurd h (by simp)
      · unfold State.modeOutcome at h
        cases he : s.entry ⟨t, d⟩ with
        | play => rfl
        | opened => simp [he] at h
        | link source => simp [he] at h
        | force v => simp [he] at h
        | hold => simp [he] at h

/-! ### The assembly of one slot -/

theorem State.assembleSlot_of_undriven {s : State} {t : TrunkId} {d : SlotId} (h : s.slotOutcome t d = .undriven) :
    s.assembleSlot t d = (none, s) := by
  unfold State.assembleSlot
  rw [h]

theorem State.assembleSlot_of_value {s : State} {t : TrunkId} {d : SlotId} {v : Value}
    (h : s.slotOutcome t d = .value v) : s.assembleSlot t d = (some v, s.sent t d v) := by
  unfold State.assembleSlot
  rw [h]

theorem State.assembleSlot_of_queued {s : State} {t : TrunkId} {d : SlotId} {v : Value} {rest : List Value}
    (h : s.slotOutcome t d = .playout) (hq : s.playout.queue = v :: rest) :
    s.assembleSlot t d =
      (some (convert .w16 (s.trunk t).format.width v),
        { s with playout := { s.playout with queue := rest } }.sent t d (convert .w16 (s.trunk t).format.width v)) := by
  unfold State.assembleSlot
  rw [h]
  dsimp only
  rw [hq]

theorem State.assembleSlot_of_underrun {s : State} {t : TrunkId} {d : SlotId} (h : s.slotOutcome t d = .playout)
    (hq : s.playout.queue = []) :
    s.assembleSlot t d = (some ((s.trunk t).heldValue d), (s.underrun t).sent t d ((s.trunk t).heldValue d)) := by
  unfold State.assembleSlot
  rw [h]
  dsimp only
  rw [hq]

/-! ### The assembly of slots in turn -/

/-- What slot `d` of trunk `t` is assembled from, but for the playout queue, is the same in both states. -/
structure State.AgreeOn (t : TrunkId) (d : SlotId) (s u : State) : Prop where
  outcome : u.slotOutcome t d = s.slotOutcome t d
  format : (u.trunk t).format = (s.trunk t).format
  sent : (u.trunk t).tx.lastSent[d] = (s.trunk t).tx.lastSent[d]
  uptime : u.uptime = s.uptime

theorem State.AgreeOn.heldValue {t : TrunkId} {d : SlotId} {s u : State} (h : s.AgreeOn t d u) :
    (u.trunk t).heldValue d = (s.trunk t).heldValue d := by
  rw [Trunk.heldValue, Trunk.heldValue, h.sent, h.format]

/-- The playout queue, the attention unit and the log are the same in both states. -/
def State.SameStreams (s u : State) : Prop := u.playout = s.playout ∧ u.attention = s.attention ∧ u.log = s.log

/-- The assembly of other slots leaves what a slot is assembled from. -/
theorem State.assembleSlots_agree {t : TrunkId} {d : SlotId} {ds : List SlotId} (h : d ∉ ds) (s : State) :
    s.AgreeOn t d (State.assembleSlots t ds s).2 := by
  have hsent := State.assembleSlots_lastSent_of_notMem (t := t) h s
  obtain ⟨sent, htrunk⟩ := State.assembleSlots_trunk t ds s
  obtain ⟨trunks, playout, attention, log, heq⟩ := State.assembleSlots_eq t ds s
  have htrunk := (htrunk t).trans (if_pos rfl)
  generalize hu : (State.assembleSlots t ds s).2 = u at hsent htrunk heq ⊢
  have hgroup (g : GroupId) : u.group g = s.group g := by rw [heq]; rfl
  have hpair (g : GroupId) (t' : TrunkId) : u.pair g t' = s.pair g t' := by rw [heq]; rfl
  have hentry (d' : FullSlot) : u.entry d' = s.entry d' := by rw [heq]; rfl
  have hformat : (u.trunk t).format = (s.trunk t).format := by rw [htrunk]
  have hmask : (u.trunk t).txMask = (s.trunk t).txMask := by rw [htrunk]
  have hmember : (u.trunk t).group = (s.trunk t).group := by rw [htrunk]
  have hheld : (u.trunk t).heldValue d = (s.trunk t).heldValue d := by
    rw [Trunk.heldValue, Trunk.heldValue, hsent, hformat]
  refine ⟨?_, hformat, hsent, by rw [heq]⟩
  simp only [State.slotOutcome_eq, State.modeOutcome, State.linkValue_eq, hgroup, hpair, hentry, hformat, hmask, hmember, hheld]

theorem State.assembleSlots_singleton (t : TrunkId) (d : SlotId) (s : State) :
    (State.assembleSlots t [d] s).2 = (s.assembleSlot t d).2 := rfl

theorem State.assembleSlots_append (t : TrunkId) (pre post : List SlotId) (s : State) :
    State.assembleSlots t (pre ++ post) s =
      ((State.assembleSlots t pre s).1 ++ (State.assembleSlots t post (State.assembleSlots t pre s).2).1,
        (State.assembleSlots t post (State.assembleSlots t pre s).2).2) := by
  induction pre generalizing s with
  | nil => rfl
  | cons d pre ih => simp only [List.cons_append, State.assembleSlots, ih]

/-- Slots that no playout value goes to leave the playout queue, the attention unit and the log. -/
theorem State.assembleSlots_sameStreams {t : TrunkId} {ds : List SlotId} (hnd : ds.Nodup) {s : State}
    (h : ∀ d ∈ ds, s.slotOutcome t d ≠ .playout) : s.SameStreams (State.assembleSlots t ds s).2 := by
  induction ds generalizing s with
  | nil => exact ⟨rfl, rfl, rfl⟩
  | cons d ds ih =>
    obtain ⟨hd, hnd⟩ := List.nodup_cons.mp hnd
    have hone : s.SameStreams (s.assembleSlot t d).2 := by
      cases hout : s.slotOutcome t d with
      | undriven =>
        rw [State.assembleSlot_of_undriven hout]
        exact ⟨rfl, rfl, rfl⟩
      | value v =>
        rw [State.assembleSlot_of_value hout]
        exact ⟨rfl, rfl, rfl⟩
      | playout => exact absurd hout (h d List.mem_cons_self)
    have hrest := ih hnd (s := (s.assembleSlot t d).2) fun d' hd' => by
      have hne : d' ∉ [d] := fun hm => hd (List.mem_singleton.mp hm ▸ hd')
      rw [← State.assembleSlots_singleton, (State.assembleSlots_agree hne s).outcome]
      exact h d' (List.mem_cons_of_mem d hd')
    exact ⟨hrest.1.trans hone.1, hrest.2.1.trans hone.2.1, hrest.2.2.trans hone.2.2⟩

/-- One slot of a frame: it is assembled in a state `w` that agrees with the state before the frame on what it is assembled from;
on the playout queue, the attention unit and the log as well when no other slot takes a playout value, and then they are left as
that slot leaves them. -/
theorem State.assembleSlots_at {t : TrunkId} {pre post : List SlotId} {d : SlotId} (hnd : (pre ++ d :: post).Nodup) (s : State) :
    ∃ w : State, s.AgreeOn t d w ∧
      (State.assembleSlots t (pre ++ d :: post) s).1[pre.length]? = some (w.assembleSlot t d).1 ∧
      ((State.assembleSlots t (pre ++ d :: post) s).2.trunk t).tx.lastSent[d] =
        (w.assembleSlot t d).1.or (s.trunk t).tx.lastSent[d] ∧
      ((∀ d' ∈ pre ++ post, s.slotOutcome t d' ≠ .playout) →
        s.SameStreams w ∧ (w.assembleSlot t d).2.SameStreams (State.assembleSlots t (pre ++ d :: post) s).2) := by
  obtain ⟨hpre, hcons, hdisjoint⟩ := List.nodup_append.mp hnd
  obtain ⟨hd, hpost⟩ := List.nodup_cons.mp hcons
  have hdpre : d ∉ pre := fun hm => hdisjoint d hm d List.mem_cons_self rfl
  have hagree := State.assembleSlots_agree (t := t) hdpre s
  generalize hw : (State.assembleSlots t pre s).2 = w at hagree
  have hassemble : State.assembleSlots t (pre ++ d :: post) s =
      ((State.assembleSlots t pre s).1 ++ (w.assembleSlot t d).1 :: (State.assembleSlots t post (w.assembleSlot t d).2).1,
        (State.assembleSlots t post (w.assembleSlot t d).2).2) := by
    rw [State.assembleSlots_append, hw]
    rfl
  refine ⟨w, hagree, ?_, ?_, fun hquiet => ?_⟩
  · rw [hassemble, ← State.assembleSlots_length t pre s]
    simp
  · rw [hassemble, State.assembleSlots_lastSent_of_notMem hd, State.assembleSlot_lastSent, if_pos rfl, hagree.sent]
  · refine ⟨hw ▸ State.assembleSlots_sameStreams hpre fun d' hd' => hquiet d' (List.mem_append_left _ hd'), ?_⟩
    rw [hassemble]
    refine State.assembleSlots_sameStreams hpost fun d' hd' => ?_
    have hne : d' ∉ [d] := fun hm => hd (List.mem_singleton.mp hm ▸ hd')
    have hnpre : d' ∉ pre := fun hm => hdisjoint d' hm d' (List.mem_cons_of_mem d hd') rfl
    rw [← State.assembleSlots_singleton, (State.assembleSlots_agree hne w).outcome, ← hw,
      (State.assembleSlots_agree hnpre s).outcome]
    exact hquiet d' (List.mem_append_right _ hd')

/-! ### The frame -/

/-- The slots of a frame around one of them. -/
theorem frameSlots_around {n : Nat} {d : SlotId} (h : d.val < n) :
    ∃ pre post, frameSlots n = pre ++ d :: post ∧ pre.length = d.val ∧ (pre ++ d :: post).Nodup ∧
      ∀ d' ∈ pre ++ post, d' ≠ d := by
  have hat := frameSlots_getElem? h
  obtain ⟨hlt, hget⟩ := List.getElem?_eq_some_iff.mp hat
  have hsplit : frameSlots n = (frameSlots n).take d.val ++ d :: (frameSlots n).drop (d.val + 1) := by
    have hcons := List.cons_getElem_drop_succ (h := hlt)
    rw [hget] at hcons
    rw [hcons, List.take_append_drop]
  have hnd := frameSlots_nodup n
  rw [hsplit] at hnd
  refine ⟨_, _, hsplit, by rw [List.length_take]; omega, hnd, fun d' hd' he => ?_⟩
  have hperm := (List.perm_middle.nodup_iff (l₂ := d :: ((frameSlots n).take d.val ++ (frameSlots n).drop (d.val + 1)))).mp hnd
  exact (List.nodup_cons.mp hperm).1 (he ▸ hd')

/-- The frame that trunk `t` assembles. -/
def State.frame (t : TrunkId) (s : State) : LineFrame :=
  { slots := (State.assembleSlots t (frameSlots (s.trunk t).format.length) s).1
    width := (s.trunk t).format.width
    clock := bitClock (s.group (s.trunk t).group).framePeriod (s.trunk t).format.bits }

theorem State.driveFrame_eq (s : State) (t : TrunkId) :
    s.driveFrame t = (State.assembleSlots t (frameSlots (s.trunk t).format.length) s).2.modifyTrunk t fun k =>
      { k with tx := { k.tx with firstSent := true, line := some (s.frame t) } } := rfl

theorem State.frame_slots_length (s : State) (t : TrunkId) :
    (s.frame t).slots.length = min (s.trunk t).format.length 40 := by
  rw [State.frame, State.assembleSlots_length, frameSlots_length_min]

theorem Group.framePeriod_eq (g : Group) :
    g.framePeriod =
      if g.state = .holdover ∨ g.state = .locked ∨ g.state = .standby then g.heldPeriod else g.config.rate.period := by
  unfold Group.framePeriod
  cases g.state <;> rfl

theorem State.driveFrame_trunk (s : State) (t t' : TrunkId) :
    (s.driveFrame t).trunk t' =
      if t' = t then
        { s.trunk t with
          tx := { (s.trunk t).tx with
            firstSent := true
            lastSent := ((s.driveFrame t).trunk t).tx.lastSent
            line := some (s.frame t) } }
      else s.trunk t' := by
  obtain ⟨sent, htrunk⟩ := State.assembleSlots_trunk t (frameSlots (s.trunk t).format.length) s
  rw [State.driveFrame_eq, State.trunk_modifyTrunk]
  by_cases h : t' = t
  · rw [if_pos h, if_pos h, State.trunk_modifyTrunk_self, htrunk t, if_pos rfl]
  · rw [if_neg h, if_neg h, htrunk t', if_neg h]

theorem State.driveFrame_lastSent (s : State) (t : TrunkId) (d : SlotId) :
    ((s.driveFrame t).trunk t).tx.lastSent[d] =
      ((State.assembleSlots t (frameSlots (s.trunk t).format.length) s).2.trunk t).tx.lastSent[d] := by
  rw [State.driveFrame_eq, State.trunk_modifyTrunk_self]

theorem State.driveFrame_fields (s : State) (t : TrunkId) :
    s.driveFrame t =
      { s with
        trunks := (s.driveFrame t).trunks
        playout := (s.driveFrame t).playout
        attention := (s.driveFrame t).attention
        log := (s.driveFrame t).log } := by
  obtain ⟨trunks, playout, attention, log, h⟩ := State.assembleSlots_eq t (frameSlots (s.trunk t).format.length) s
  rw [State.driveFrame_eq, h]
  rfl

theorem State.driveFrame_beyond {s : State} {t : TrunkId} {d : SlotId} (h : (s.trunk t).format.length ≤ d.val) :
    ((s.driveFrame t).trunk t).tx.lastSent[d] = (s.trunk t).tx.lastSent[d] := by
  rw [State.driveFrame_lastSent]
  refine State.assembleSlots_lastSent_of_notMem (fun hm => ?_) s
  have hlt := of_decide_eq_true (List.mem_filter.mp hm).2
  omega

theorem State.driveFrame_sameStreams {s : State} {t : TrunkId}
    (h : ∀ d : SlotId, d.val < (s.trunk t).format.length → s.slotOutcome t d ≠ .playout) :
    s.SameStreams (s.driveFrame t) :=
  State.assembleSlots_sameStreams (frameSlots_nodup _) fun d hd => h d (of_decide_eq_true (List.mem_filter.mp hd).2)

/-- One slot of the frame driven, as `assembleSlots_at` has it. -/
theorem State.driveFrame_at {s : State} {t : TrunkId} {d : SlotId} (h : d.val < (s.trunk t).format.length) :
    ∃ w : State, s.AgreeOn t d w ∧ (s.frame t).slots[d.val]? = some (w.assembleSlot t d).1 ∧
      ((s.driveFrame t).trunk t).tx.lastSent[d] = (w.assembleSlot t d).1.or (s.trunk t).tx.lastSent[d] ∧
      ((∀ d' : SlotId, d' ≠ d → s.slotOutcome t d' ≠ .playout) →
        s.SameStreams w ∧ (w.assembleSlot t d).2.SameStreams (s.driveFrame t)) := by
  obtain ⟨pre, post, hslots, hlength, hnd, hne⟩ := frameSlots_around h
  obtain ⟨w, hagree, hslot, hsent, hstreams⟩ := State.assembleSlots_at (t := t) hnd s
  refine ⟨w, hagree, ?_, ?_, fun hquiet => ?_⟩
  · rw [State.frame, hslots, ← hlength]
    exact hslot
  · rw [State.driveFrame_lastSent, hslots]
    exact hsent
  · obtain ⟨hbefore, hafter⟩ := hstreams fun d' hd' => hquiet d' (hne d' hd')
    rw [← hslots] at hafter
    exact ⟨hbefore, hafter⟩

theorem State.driveFrame_of_undriven {s : State} {t : TrunkId} {d : SlotId} (h : d.val < (s.trunk t).format.length)
    (hout : s.slotOutcome t d = .undriven) :
    (s.frame t).slots[d.val]? = some none ∧ ((s.driveFrame t).trunk t).tx.lastSent[d] = (s.trunk t).tx.lastSent[d] := by
  obtain ⟨w, hagree, hslot, hsent, -⟩ := State.driveFrame_at h
  rw [State.assembleSlot_of_undriven (hagree.outcome.trans hout)] at hslot hsent
  exact ⟨hslot, hsent⟩

theorem State.driveFrame_of_value {s : State} {t : TrunkId} {d : SlotId} (h : d.val < (s.trunk t).format.length) {x : Value}
    (hout : s.slotOutcome t d = .value x) :
    (s.frame t).slots[d.val]? = some (some x) ∧ ((s.driveFrame t).trunk t).tx.lastSent[d] = some x := by
  obtain ⟨w, hagree, hslot, hsent, -⟩ := State.driveFrame_at h
  rw [State.assembleSlot_of_value (hagree.outcome.trans hout)] at hslot hsent
  exact ⟨hslot, hsent⟩

theorem State.driveFrame_of_queued {s : State} {t : TrunkId} {d : SlotId} (h : d.val < (s.trunk t).format.length)
    (hout : s.slotOutcome t d = .playout) (hone : ∀ d' : SlotId, d' ≠ d → s.slotOutcome t d' ≠ .playout) {x : Value}
    {rest : List Value} (hq : s.playout.queue = x :: rest) :
    (s.frame t).slots[d.val]? = some (some (convert .w16 (s.trunk t).format.width x)) ∧
      ((s.driveFrame t).trunk t).tx.lastSent[d] = some (convert .w16 (s.trunk t).format.width x) ∧
      (s.driveFrame t).playout = { s.playout with queue := rest } ∧ (s.driveFrame t).attention = s.attention ∧
      (s.driveFrame t).log = s.log := by
  obtain ⟨w, hagree, hslot, hsent, hstreams⟩ := State.driveFrame_at h
  obtain ⟨⟨hplayout, hattention, hlog⟩, hplayout', hattention', hlog'⟩ := hstreams hone
  have hassemble := State.assembleSlot_of_queued (hagree.outcome.trans hout) (by rw [hplayout]; exact hq)
  rw [hassemble, hagree.format] at hslot hsent
  rw [hassemble] at hplayout' hattention' hlog'
  refine ⟨hslot, hsent, hplayout'.trans ?_, hattention'.trans hattention, hlog'.trans hlog⟩
  rw [← hplayout]
  rfl

/-- A record sees of the state the log, the attention unit and the uptime alone. -/
theorem State.writeRecord_congr {s u : State} (hlog : u.log = s.log) (hattention : u.attention = s.attention)
    (huptime : u.uptime = s.uptime) (e : LogEvent) :
    (u.writeRecord e).attention = (s.writeRecord e).attention ∧ (u.writeRecord e).log = (s.writeRecord e).log := by
  rw [State.writeRecord_eq, State.writeRecord_eq, hlog, hattention, huptime]
  exact ⟨rfl, rfl⟩

theorem State.driveFrame_of_underrun {s : State} {t : TrunkId} {d : SlotId} (h : d.val < (s.trunk t).format.length)
    (hout : s.slotOutcome t d = .playout) (hone : ∀ d' : SlotId, d' ≠ d → s.slotOutcome t d' ≠ .playout)
    (hq : s.playout.queue = []) :
    (s.frame t).slots[d.val]? = some (some ((s.trunk t).heldValue d)) ∧
      ((s.driveFrame t).trunk t).tx.lastSent[d] = some ((s.trunk t).heldValue d) ∧
      (s.driveFrame t).playout =
        { s.playout with underruns := satAdd s.playout.underruns 1, episode := true } ∧
      if s.playout.episode then (s.driveFrame t).attention = s.attention ∧ (s.driveFrame t).log = s.log
      else
        (s.driveFrame t).attention = (State.writeRecord (.playUnderrun t) (s.raise .playEmpty)).attention ∧
          (s.driveFrame t).log = (State.writeRecord (.playUnderrun t) (s.raise .playEmpty)).log := by
  obtain ⟨w, hagree, hslot, hsent, hstreams⟩ := State.driveFrame_at h
  obtain ⟨⟨hplayout, hattention, hlog⟩, hplayout', hattention', hlog'⟩ := hstreams hone
  have hassemble := State.assembleSlot_of_underrun (hagree.outcome.trans hout) (by rw [hplayout]; exact hq)
  rw [hassemble, hagree.heldValue] at hslot hsent
  rw [hassemble] at hplayout' hattention' hlog'
  have hplayout' : (s.driveFrame t).playout = (w.underrun t).playout := hplayout'
  have hattention' : (s.driveFrame t).attention = (w.underrun t).attention := hattention'
  have hlog' : (s.driveFrame t).log = (w.underrun t).log := hlog'
  refine ⟨hslot, hsent, ?_⟩
  rw [hplayout', hattention', hlog', State.underrun, ← hplayout, ← hattention, ← hlog]
  dsimp only
  by_cases he : w.playout.episode = true
  · rw [if_pos he, if_pos he]
    exact ⟨rfl, rfl, rfl⟩
  · rw [if_neg he, if_neg he]
    refine ⟨by simp, ?_⟩
    refine State.writeRecord_congr (s := s.raise .playEmpty) ?_ ?_ ?_ _
    · exact hlog
    · exact congrArg (Attention.raise .playEmpty) hattention
    · exact hagree.uptime

theorem LineFrame.bit_data (f : LineFrame) (k i : Nat) (hi : i < f.width.bits) :
    (f.bit (k * f.width.bits + i)).data = (f.slots[k]?.join).map fun v => v.getLsbD (f.width.bits - 1 - i) := by
  have hdiv : (k * f.width.bits + i) / f.width.bits = k := by
    rw [Nat.mul_comm, Nat.mul_add_div (by omega), Nat.div_eq_of_lt hi, Nat.add_zero]
  have hmod : (k * f.width.bits + i) % f.width.bits = i := by
    rw [Nat.mul_comm, Nat.mul_add_mod, Nat.mod_eq_of_lt hi]
  rw [LineFrame.bit, hdiv, hmod]

theorem LineFrame.bit_beyond {f : LineFrame} {n length : Nat} (hslots : f.slots.length ≤ length)
    (hn : length * f.width.bits ≤ n) : (f.bit n).data = none := by
  have hpos : 0 < f.width.bits := by cases f.width <;> decide
  have hnone : f.slots[n / f.width.bits]? = none :=
    List.getElem?_eq_none (hslots.trans ((Nat.le_div_iff_mul_le hpos).mpr hn))
  rw [LineFrame.bit, hnone]
  rfl

/-- The state at a transmit frame start before the frame is assembled: the pending mask is active and the trunk's in-flight entries
are applied (R28 steps 1 and 2). -/
def State.armed (t : TrunkId) (s : State) : State :=
  (s.modifyTrunk t fun k => { k with txMask := k.txMask.activate, tx := { k.tx with startDue := false } }).applyInFlight
    (· == t)

theorem State.transmitStart_eq_drive (s : State) (t : TrunkId) : s.transmitStart t = (s.armed t).driveFrame t := rfl

theorem State.armed_trunk (s : State) (t t' : TrunkId) :
    (s.armed t).trunk t' =
      if t' = t then
        { s.trunk t with txMask := (s.trunk t).txMask.activate, tx := { (s.trunk t).tx with startDue := false } }
      else s.trunk t' := by
  rw [State.armed, State.applyInFlight_trunk, State.trunk_modifyTrunk]

theorem State.armed_entry {s : State} (hone : s.OneEntryEach) (t : TrunkId) (d : FullSlot) :
    (s.armed t).entry d = if d.trunk = t then s.appliedEntry d else s.entry d := by
  rw [State.armed, State.applyInFlight_appliedEntry (s := s.modifyTrunk t _) hone]
  by_cases h : d.trunk = t
  · rw [if_pos h, if_pos (beq_iff_eq.mpr h)]
    rfl
  · rw [if_neg h, if_neg (mt beq_iff_eq.mp h)]
    rfl

theorem State.moves_armed (s : State) (t : TrunkId) : s.Moves (s.armed t) :=
  (State.moves_modifyTrunk s t _ (.masks _ _ _ id Mask.activate_below)).trans (Move.moves (.apply _))

/-- At most one slot takes a playout value (R98). -/
theorem State.OnePlay.playout_ne {s : State} (h : s.OnePlay) {t : TrunkId} {d d' : SlotId}
    (hd : s.slotOutcome t d = .playout) (hne : d' ≠ d) : s.slotOutcome t d' ≠ .playout := fun hd' =>
  hne (FullSlot.mk.inj (h ⟨t, d'⟩ ⟨t, d⟩ (.inl (State.entry_of_playout hd')) (.inl (State.entry_of_playout hd)))).2

/-- Settles O35: `armed` by its tables, the frame by the bits of its line, and each slot by its outcome. -/
theorem transmitFrameStart : Obligations.TransmitFrameStart := by
  intro s t hs hrun hdue hbatch hone hplay
  have hexec : exec (.transmitFrameStart t) s = .next ((s.armed t).driveFrame t).finish := by
    rw [exec_transmitFrameStart, event_of_settled hs, State.frameStart, if_pos ⟨hrun, hdue⟩, State.transmitStart_eq_drive]
  have hlaw : (s.armed t).OnePlay := kept_onePlay.moves (s.moves_armed t) hplay
  have hleft : s.InFlightLeft (· == t) (s.armed t) := State.applyInFlight_left (s := s.modifyTrunk t _) hbatch (· == t)
  have hrest : s.armed t = { s with
      trunks := (s.armed t).trunks
      map := (s.armed t).map
      changes := (s.armed t).changes
      batch := (s.armed t).batch
      lastBatch := (s.armed t).lastBatch
      attention := (s.armed t).attention } := by
    obtain ⟨_, _, _, _, _, h⟩ := State.applyInFlight_eq (· == t) (s.modifyTrunk t fun k =>
      { k with txMask := k.txMask.activate, tx := { k.tx with startDue := false } })
    rw [State.armed, h]
    rfl
  have hentry := State.armed_entry hone t
  have htrunk := s.armed_trunk t
  generalize s.armed t = v at *
  refine ⟨v, v.driveFrame t, v.frame t, hexec, hleft, hentry, htrunk, hrest, rfl, ?_, fun n => ?_, fun d i hi => ?_,
    fun n hn => ?_, v.frame_slots_length t, fun t' ht => ?_, ?_, fun d => ?_, fun h => ?_, v.driveFrame_fields t⟩
  · dsimp only
    rw [State.frame, Group.framePeriod_eq, Group.heldPeriod_eq]
    rfl
  · rfl
  · rw [LineFrame.bit_data _ _ _ hi]
    rcases (v.frame t).slots[d.val]? with _ | _ | x <;> rfl
  · exact LineFrame.bit_beyond (by rw [State.frame_slots_length]; exact Nat.min_le_left _ _) hn
  · rw [State.driveFrame_trunk, if_neg ht]
  · exact (v.driveFrame_trunk t t).trans (if_pos rfl)
  · split
    next hbeyond => exact State.driveFrame_beyond hbeyond
    next hlt =>
      have hlt := Nat.not_le.mp hlt
      cases hout : v.slotOutcome t d with
      | undriven => exact State.driveFrame_of_undriven hlt hout
      | value x => exact State.driveFrame_of_value hlt hout
      | playout =>
        have hothers : ∀ d' : SlotId, d' ≠ d → v.slotOutcome t d' ≠ .playout := fun d' hne => hlaw.playout_ne hout hne
        dsimp only
        split
        next x rest hq => exact State.driveFrame_of_queued hlt hout hothers hq
        next hq =>
          have hunderrun := State.driveFrame_of_underrun hlt hout hothers hq
          rw [satAdd_one_16] at hunderrun
          exact hunderrun
  · exact State.driveFrame_sameStreams h

end Sys2Proof.Machine
end

section
/-! PROOFS. The change list: staging commands and their refusals, withdrawing, and the two reports (R3, R93 to R98, R103 to R111, R122,
R123). -/

namespace Sys2Proof.Machine

/-! ### References -/

theorem existingSlot?_eq_some_iff {s : State} {t : TrunkId} {b : Byte} {d : FullSlot} :
    existingSlot? s t b = some d ↔ d.trunk = t ∧ b = natByte d.slot.val ∧ s.exists d = true := by
  refine ⟨fun h => ?_, ?_⟩
  · obtain ⟨ht, hslot, hexists⟩ := existingSlot?_eq_some h
    refine ⟨ht, BitVec.eq_of_toNat_eq ?_, hexists⟩
    rw [natByte_toNat (by omega), hslot]
  · rintro ⟨rfl, rfl, hexists⟩
    have hslot : (natByte d.slot.val).toNat = d.slot.val := natByte_toNat (by omega)
    have hlength : d.slot.val < (s.trunk d.trunk).format.length := of_decide_eq_true hexists
    unfold existingSlot?
    rw [dif_pos (by rw [hslot]; exact ⟨d.slot.isLt, hlength⟩)]
    simp only [hslot, Fin.eta]

theorem resolve_eq_some_iff {s : State} {context : TrunkId} {r : SlotRef} {d : FullSlot} :
    resolve s context r = some d ↔ SlotRef.Names context r d ∧ s.exists d = true := by
  unfold resolve
  simp only [Option.bind_eq_some_iff, resolveTrunk_eq_some_iff, existingSlot?_eq_some_iff]
  constructor
  · rintro ⟨t, ht, rfl, hslot, hexists⟩
    exact ⟨⟨ht, hslot⟩, hexists⟩
  · rintro ⟨⟨ht, hslot⟩, hexists⟩
    exact ⟨d.trunk, ht, rfl, hslot, hexists⟩

theorem resolveDestination_eq_some {s : State} {r : SlotRef} {d : FullSlot} (h : s.DestinationIs r d) :
    resolveDestination s r = some d := resolve_eq_some_iff.mpr h

theorem resolveSource_eq_some {s : State} {r : SlotRef} {d : FullSlot} (h : s.SourceIs r d) :
    resolveSource s r = some d := resolve_eq_some_iff.mpr h

theorem resolveDestination_eq_none {s : State} {r : SlotRef} (h : ¬∃ d, s.DestinationIs r d) :
    resolveDestination s r = none :=
  Option.eq_none_iff_forall_ne_some.mpr fun d hd => h ⟨d, resolve_eq_some_iff.mp hd⟩

theorem resolveSource_eq_none {s : State} {r : SlotRef} (h : ¬∃ d, s.SourceIs r d) : resolveSource s r = none :=
  Option.eq_none_iff_forall_ne_some.mpr fun d hd => h ⟨d, resolve_eq_some_iff.mp hd⟩

theorem State.playElsewhere_iff {s : State} {d : FullSlot} :
    s.playElsewhere d = true ↔ ∃ d', d' ≠ d ∧ s.PlayIn d' := by
  have hmem (d' : FullSlot) : d' ∈ allSlots := by simp [allSlots, allTrunks]
  simp only [State.playElsewhere, Bool.or_eq_true, List.any_eq_true, Bool.and_eq_true, bne_iff_ne, beq_iff_eq, State.PlayIn]
  constructor
  · rintro (⟨d', -, hne, hplay⟩ | ⟨c, hc, hne, hplay⟩)
    · exact ⟨d', hne, .inl hplay⟩
    · exact ⟨c.destination, hne, .inr ⟨c, hc, rfl, hplay⟩⟩
  · rintro ⟨d', hne, hplay | ⟨c, hc, rfl, hplay⟩⟩
    · exact .inl ⟨d', hmem d', hne, hplay⟩
    · exact .inr ⟨c, hc, hne, hplay⟩

/-! ### The placing of an entry -/

theorem stageEntry_of_staged {s : State} {d : FullSlot} {older newer : List Change} {c : Change}
    (h : s.changes = older ++ c :: newer) (hc : c.stagedFor d = true) (hfirst : ∀ x ∈ older, x.stagedFor d = false)
    (e : MapEntry) :
    stageEntry d e s = okWith (d.bytes ++ [natByte older.length, 1#8])
      { s with changes := older ++ { destination := d, entry := e, batch := none } :: newer } := by
  have hfind : s.changes.findIdx? (Change.stagedFor d) = some older.length := by
    rw [h, List.findIdx?_append, List.findIdx?_eq_none_iff.mpr hfirst, List.findIdx?_cons, if_pos hc]
    simp
  unfold stageEntry
  dsimp only
  rw [hfind, h]
  dsimp only
  rw [List.set_append_right _ _ le_rfl, Nat.sub_self, List.set_cons_zero]

theorem stageEntry_of_unstaged {s : State} {d : FullSlot} (h : ∀ x ∈ s.changes, x.stagedFor d = false) (e : MapEntry) :
    stageEntry d e s =
      if s.changes.length < 64 then
        okWith (d.bytes ++ [natByte s.changes.length, 0#8])
          { s with changes := s.changes ++ [{ destination := d, entry := e, batch := none }] }
      else refuse .listFull s := by
  unfold stageEntry
  dsimp only
  rw [List.findIdx?_eq_none_iff.mpr h]
  rfl

theorem Change.stagedFor_eq_false {d : FullSlot} {c : Change} (h : ¬(c.batch = none ∧ c.destination = d)) :
    c.stagedFor d = false :=
  Bool.eq_false_iff.mpr fun hs => h (Change.stagedFor_iff.mp hs).symm

/-! ### The staging commands -/

theorem handleStageLink_of_resolved {s : State} {r q : SlotRef} {d source : FullSlot} (hd : s.DestinationIs r d)
    (hs : s.SourceIs q source) :
    handleStageLink r q s =
      if s.projected d ≠ .link source ∧ 12 < s.fanout source + 1 then refuse .fanout s
      else stageEntry d (.link source) s := by
  unfold handleStageLink
  rw [resolveDestination_eq_some hd, resolveSource_eq_some hs]
  rfl

theorem handleStageLink_of_unresolved {s : State} {r q : SlotRef}
    (h : (¬∃ d, s.DestinationIs r d) ∨ ¬∃ d, s.SourceIs q d) : handleStageLink r q s = refuse .range s := by
  unfold handleStageLink
  obtain h | h := h
  · rw [resolveDestination_eq_none h]
  · rw [resolveSource_eq_none h]
    cases resolveDestination s r <;> rfl

theorem handleStageOpen_of_resolved {s : State} {r : SlotRef} {d : FullSlot} (h : s.DestinationIs r d) :
    handleStageOpen r s = stageEntry d .opened s := by
  unfold handleStageOpen
  rw [resolveDestination_eq_some h]

theorem handleStageOpen_of_unresolved {s : State} {r : SlotRef} (h : ¬∃ d, s.DestinationIs r d) :
    handleStageOpen r s = refuse .range s := by
  unfold handleStageOpen
  rw [resolveDestination_eq_none h]

theorem handleStageForce_of_resolved {s : State} {r : SlotRef} {d : FullSlot} (h : s.DestinationIs r d) (v : Value) :
    handleStageForce r v s =
      if (s.trunk d.trunk).format.width.holds v then stageEntry d (.force v) s else refuse .range s := by
  unfold handleStageForce
  rw [resolveDestination_eq_some h]

theorem handleStageForce_of_unresolved {s : State} {r : SlotRef} (h : ¬∃ d, s.DestinationIs r d) (v : Value) :
    handleStageForce r v s = refuse .range s := by
  unfold handleStageForce
  rw [resolveDestination_eq_none h]

theorem handleStageHold_of_resolved {s : State} {r : SlotRef} {d : FullSlot} (h : s.DestinationIs r d) :
    handleStageHold r s = stageEntry d .hold s := by
  unfold handleStageHold
  rw [resolveDestination_eq_some h]

theorem handleStageHold_of_unresolved {s : State} {r : SlotRef} (h : ¬∃ d, s.DestinationIs r d) :
    handleStageHold r s = refuse .range s := by
  unfold handleStageHold
  rw [resolveDestination_eq_none h]

theorem handleStagePlay_of_resolved {s : State} {r : SlotRef} {d : FullSlot} (h : s.DestinationIs r d) :
    handleStagePlay r s = if s.playElsewhere d then refuse .playTaken s else stageEntry d .play s := by
  unfold handleStagePlay
  rw [resolveDestination_eq_some h]

theorem handleStagePlay_of_unresolved {s : State} {r : SlotRef} (h : ¬∃ d, s.DestinationIs r d) :
    handleStagePlay r s = refuse .range s := by
  unfold handleStagePlay
  rw [resolveDestination_eq_none h]

theorem holds_iff {w : Width} {v : Value} : w.holds v = true ↔ (w = .w8 → v.toNat ≤ 255) := by
  cases w with
  | w8 => simp [holds_w8_iff]
  | w16 => simp [holds_w16]

/-- A staging command that passes checks 1 and 2 of R104 places its entry. -/
theorem State.PassesStaging.places {s : State} {i : Instr} {d : FullSlot} {e : MapEntry} (h : s.PassesStaging i d e) :
    ∃ handler : Handler, (∀ u, exec i u = taken i handler u) ∧ handler s = stageEntry d e s := by
  unfold State.PassesStaging at h
  split at h
  next r =>
    obtain ⟨hd, rfl⟩ := h
    exact ⟨handleStageOpen r, fun _ => rfl, handleStageOpen_of_resolved hd⟩
  next r =>
    obtain ⟨hd, rfl⟩ := h
    exact ⟨handleStageHold r, fun _ => rfl, handleStageHold_of_resolved hd⟩
  next r v =>
    obtain ⟨hd, rfl, hv⟩ := h
    exact ⟨handleStageForce r v, fun _ => rfl, (handleStageForce_of_resolved hd v).trans (if_pos (holds_iff.mpr hv))⟩
  next r q =>
    obtain ⟨hd, source, hs, rfl, hfanout⟩ := h
    refine ⟨handleStageLink r q, fun _ => rfl, (handleStageLink_of_resolved hd hs).trans (if_neg ?_)⟩
    rintro ⟨hne, hlimit⟩
    exact hfanout.elim hne fun _ => by omega
  next r =>
    obtain ⟨hd, rfl, hplay⟩ := h
    refine ⟨handleStagePlay r, fun _ => rfl, (handleStagePlay_of_resolved hd).trans (if_neg fun hn => ?_)⟩
    obtain ⟨d', hne, hd'⟩ := State.playElsewhere_iff.mp hn
    exact hplay d' hne hd'
  · exact h.elim

/-- Settles O40: `PassesStaging.places`, then the branches of the placing. -/
theorem stagingPlacesEntry : Obligations.StagingPlacesEntry := by
  intro i r s d e hr h hpasses staged
  obtain ⟨handler, hexec, hplaces⟩ := State.PassesStaging.places (s := s.buffered r) hpasses
  rw [hexec]
  refine ⟨fun older newer c hs hc hfirst => ?_, fun hnone hroom => ?_, fun hnone hfull => ?_⟩
  · exact taken_ok_of_ready hr h (hplaces.trans (stageEntry_of_staged (s := s.buffered r) hs (Change.stagedFor_iff.mpr hc.symm)
      (fun x hx => Change.stagedFor_eq_false (hfirst x hx)) e))
  · exact taken_ok_of_ready hr h (hplaces.trans ((stageEntry_of_unstaged (s := s.buffered r)
      (fun x hx => Change.stagedFor_eq_false (hnone x hx)) e).trans (if_pos hroom)))
  · exact taken_refused_of_ready .listFull hr h (hplaces.trans ((stageEntry_of_unstaged (s := s.buffered r)
      (fun x hx => Change.stagedFor_eq_false (hnone x hx)) e).trans (if_neg (Nat.not_lt.mpr hfull))))

/-- Settles O41: what each handler answers to a reference, a value, a fan-out or a PLAY destination that fails its check. -/
theorem stagingRefusals : Obligations.StagingRefusals := by
  refine ⟨fun s r hd => ⟨fun q h => ?_, fun h => ?_, fun v h => ?_, fun h => ?_, fun h => ?_⟩, fun s r q hq h => ?_,
    fun s r v d hd hw hv h => ?_, fun s r q d source hd hs hne hfanout h => ?_, fun s r d d' hd hne hplay h => ?_⟩
  · exact taken_refused_of_ready (i := .stageLink r q) (handler := handleStageLink r q) .range rfl h
      (handleStageLink_of_unresolved (s := s.buffered _) (.inl hd))
  · exact taken_refused_of_ready (i := .stageOpen r) (handler := handleStageOpen r) .range rfl h
      (handleStageOpen_of_unresolved (s := s.buffered _) hd)
  · exact taken_refused_of_ready (i := .stageForce r v) (handler := handleStageForce r v) .range rfl h
      (handleStageForce_of_unresolved (s := s.buffered _) hd v)
  · exact taken_refused_of_ready (i := .stageHold r) (handler := handleStageHold r) .range rfl h
      (handleStageHold_of_unresolved (s := s.buffered _) hd)
  · exact taken_refused_of_ready (i := .stagePlay r) (handler := handleStagePlay r) .range rfl h
      (handleStagePlay_of_unresolved (s := s.buffered _) hd)
  · exact taken_refused_of_ready (i := .stageLink r q) (handler := handleStageLink r q) .range rfl h
      (handleStageLink_of_unresolved (s := s.buffered _) (.inr hq))
  · have hholds : ¬(s.trunk d.trunk).format.width.holds v = true := fun hn => by
      have := holds_iff.mp hn hw
      omega
    exact taken_refused_of_ready (i := .stageForce r v) (handler := handleStageForce r v) .range rfl h
      ((handleStageForce_of_resolved (s := s.buffered _) hd v).trans (if_neg hholds))
  · exact taken_refused_of_ready (i := .stageLink r q) (handler := handleStageLink r q) .fanout rfl h
      ((handleStageLink_of_resolved (s := s.buffered _) hd hs).trans (if_pos ⟨hne, Nat.lt_succ_of_le hfanout⟩))
  · have helsewhere : s.playElsewhere d = true := State.playElsewhere_iff.mpr ⟨d', hne, hplay⟩
    exact taken_refused_of_ready (i := .stagePlay r) (handler := handleStagePlay r) .playTaken rfl h
      ((handleStagePlay_of_resolved (s := s.buffered _) hd).trans (if_pos helsewhere))

/-! ### Withdrawing -/

theorem State.unstageExceeds_iff {s : State} {d : FullSlot} :
    s.unstageExceeds d = true ↔ ∃ source, (s.withdraw d).projected d = .link source ∧ s.projected d ≠ .link source ∧
      12 < (s.withdraw d).fanout source := by
  unfold State.unstageExceeds
  cases (s.withdraw d).projected d with
  | link source =>
    simp only [Bool.and_eq_true, bne_iff_ne, MapEntry.link.injEq]
    constructor
    · rintro ⟨hne, hover⟩
      exact ⟨source, rfl, hne, of_decide_eq_true hover⟩
    · rintro ⟨_, rfl, hne, hover⟩
      exact ⟨hne, decide_eq_true hover⟩
  | opened => simp
  | force v => simp
  | hold => simp
  | play => simp

theorem handleUnstage_of_unresolved {s : State} {r : SlotRef} (h : ¬∃ d, s.DestinationIs r d) :
    handleUnstage r s = refuse .range s := by
  unfold handleUnstage
  rw [resolveDestination_eq_none h]

theorem handleUnstage_of_resolved {s : State} {r : SlotRef} {d : FullSlot} (h : s.DestinationIs r d) :
    handleUnstage r s =
      if s.changes.any (Change.stagedFor d) = false then refuse .notStaged s
      else if s.unstageExceeds d then refuse .fanout s
      else okWith [natByte (s.withdraw d).stagedCount] (s.withdraw d) := by
  unfold handleUnstage
  rw [resolveDestination_eq_some h]

/-- The one staged entry of a destination, withdrawn. -/
theorem State.withdraw_eq {s : State} {older newer : List Change} {c : Change} (h : s.changes = older ++ c :: newer)
    (hone : s.OneEntryEach) (hc : c.batch = none) :
    s.withdraw c.destination = { s with changes := older ++ newer } := by
  have hstaged : c.stagedFor c.destination = true := Change.stagedFor_iff.mpr ⟨rfl, hc⟩
  have hcount := (hone c.destination).1
  rw [h, List.countP_append, List.countP_cons_of_pos hstaged] at hcount
  have holder : older.countP (Change.stagedFor c.destination) = 0 := by omega
  rw [State.withdraw, h, List.eraseP_append_right _ (List.countP_eq_zero.mp holder), List.eraseP_cons_of_pos hstaged]

/-- Settles O42. -/
theorem unstageAndDiscard : Obligations.UnstageAndDiscard := by
  refine ⟨fun s r h => ⟨fun hd => ?_, fun d hd => ⟨fun hnone => ?_, fun older newer c hs hone hdest hc => ?_⟩⟩, fun s h => ?_⟩
  · exact taken_refused_of_ready (i := .unstage r) (handler := handleUnstage r) .range rfl h
      (handleUnstage_of_unresolved (s := s.buffered _) hd)
  · have hunstaged : s.changes.any (Change.stagedFor d) = false := List.any_eq_false.mpr fun c hc hst =>
      hnone c hc (Change.stagedFor_iff.mp hst).1 (Change.stagedFor_iff.mp hst).2
    exact taken_refused_of_ready (i := .unstage r) (handler := handleUnstage r) .notStaged rfl h
      ((handleUnstage_of_resolved (s := s.buffered _) hd).trans (if_pos hunstaged))
  · subst hdest
    have hmem : c ∈ s.changes := by rw [hs]; exact List.mem_append_right _ List.mem_cons_self
    have hstaged : ¬s.changes.any (Change.stagedFor c.destination) = false :=
      Bool.not_eq_false _ ▸ List.any_eq_true.mpr ⟨c, hmem, Change.stagedFor_iff.mpr ⟨rfl, hc⟩⟩
    have hprojected : s.projected c.destination = c.entry := congrArg Prod.fst (State.projectedLayer_of_staged hone hmem hc)
    have hwithdraw := State.withdraw_eq hs hone hc
    have hexceeds : s.unstageExceeds c.destination = true ↔
        ∃ source, State.projected { s with changes := older ++ newer } c.destination = .link source ∧ c.entry ≠ .link source ∧
          12 < State.fanout { s with changes := older ++ newer } source := by
      rw [State.unstageExceeds_iff, hwithdraw, hprojected]
    have hhandler := (handleUnstage_of_resolved (s := s.buffered ⟨0x35#8, r.bytes⟩) hd).trans (if_neg hstaged)
    refine ⟨fun hfanout => ?_, fun hfanout => ?_⟩
    · exact taken_refused_of_ready (i := .unstage r) (handler := handleUnstage r) .fanout rfl h
        (hhandler.trans (if_pos (hexceeds.mpr hfanout)))
    · have hwithdraw' := State.withdraw_eq (s := s.buffered ⟨0x35#8, r.bytes⟩) hs hone hc
      have hallowed : ¬s.unstageExceeds c.destination = true := fun hn => by
        obtain ⟨source, hlink, hne, hover⟩ := hexceeds.mp hn
        exact absurd hover (Nat.not_lt.mpr (hfanout source hlink hne))
      refine taken_ok_of_ready (i := .unstage r) (handler := handleUnstage r) rfl h
        (hhandler.trans ((if_neg hallowed).trans ?_))
      rw [hwithdraw']
      rfl
  · exact taken_ok_of_ready (i := .discard) (handler := handleDiscard) rfl h rfl

/-! ### Reports -/

theorem listRecords_eq (place : Nat) (cs : List Change) :
    listRecords place cs = (cs.mapIdx fun n c => c.bytes (place + n)).flatten := by
  induction cs generalizing place with
  | nil => rfl
  | cons c cs ih =>
    rw [listRecords, ih, List.mapIdx_cons, List.flatten_cons]
    simp only [Nat.add_zero, Nat.add_right_comm, Nat.add_assoc]

theorem Change.bytes_eq (place : Nat) (c : Change) :
    c.bytes place =
      [natByte place, trunkByte c.destination.trunk, natByte c.destination.slot.val, c.entry.modeByte] ++
        c.entry.sourceBytes ++ c.entry.forceBytes ++
        (match c.batch with
          | some id => [1#8, id]
          | none => [2#8, 0#8]) := by
  unfold Change.bytes
  cases c.batch <;> rfl

/-- Settles O45. -/
theorem batchAndListReports : Obligations.BatchAndListReports := by
  refine ⟨fun s h => ?_, fun s first count hfirst hlow hhigh h => ?_, fun s first count hbad h => ?_⟩
  · refine (taken_ok_of_ready (i := .batchStatus) (handler := handleBatchStatus) rfl h rfl).trans ?_
    unfold State.batchBytes
    dsimp only [State.buffered]
    cases s.batch <;> cases s.lastBatch <;> rfl
  · have hhandler (u : State) : handleListRead first count u =
        okWith ([natByte u.changes.length, natByte ((u.changes.drop first.toNat).take count.toNat).length] ++
          listRecords first.toNat ((u.changes.drop first.toNat).take count.toNat)) u := if_pos ⟨hfirst, hlow, hhigh⟩
    refine (taken_ok_of_ready (i := .listRead first count) (handler := handleListRead first count) rfl h
      (hhandler (s.buffered _))).trans ?_
    rw [listRecords_eq]
    simp only [Change.bytes_eq]
    rfl
  · have hhandler (u : State) : handleListRead first count u = refuse .range u := if_neg fun hn => by
      obtain ⟨hfirst, hlow, hhigh⟩ := hn
      obtain hbad | rfl | hbad := hbad
      · omega
      · exact absurd hlow (by decide)
      · omega
    exact taken_refused_of_ready (i := .listRead first count) (handler := handleListRead first count) .range rfl h
      (hhandler _)

end Sys2Proof.Machine
end

section
/-! PROOFS. COMMIT, and the projected map through it and through a transmit frame start (R94, R113 to R116). -/

namespace Sys2Proof.Machine

/-! ### COMMIT -/

/-- The in-flight entries of HELD trunks and those left are all the entries that COMMIT has put in flight. -/
theorem State.putInFlight_inFlightCount {s : State} (h : ∀ c ∈ s.changes, c.batch = none) (p : TrunkId → Bool) :
    s.putInFlight.inFlightCount p + s.changes.countP (fun c => !p c.destination.trunk) = s.changes.length := by
  have hcount : s.putInFlight.inFlightCount p = s.changes.countP fun c => p c.destination.trunk := by
    unfold State.inFlightCount
    rw [State.putInFlight_changes h, List.countP_map]
    rfl
  rw [hcount, List.length_eq_countP_add_countP (fun c : Change => p c.destination.trunk)]
  refine congrArg (_ + ·) (List.countP_congr fun c _ => ?_)
  simp

/-- What COMMIT leaves of the change list, the map, the batch and the attention unit, where every entry was staged. -/
structure State.CommitLeaves (s u : State) : Prop where
  changes : u.changes = (s.changes.filter fun c => !s.txHeld c.destination.trunk).map fun c =>
    { c with batch := some s.nextBatch }
  entry : ∀ d, u.entry d = if s.txHeld d.trunk then s.projected d else s.entry d
  nextBatch : u.nextBatch = nextBatchId s.nextBatch
  batch :
    let left := s.changes.countP fun c => !s.txHeld c.destination.trunk
    if left = 0 then
      u.batch = none ∧ u.lastBatch = some { id := s.nextBatch, applied := s.changes.length } ∧
        u.attention = s.attention.raise .batchDone
    else
      u.batch = some { id := s.nextBatch, count := s.changes.length, remaining := left } ∧ u.lastBatch = s.lastBatch ∧
        u.attention = s.attention

theorem State.commit_leaves {s : State} (h : ∀ c ∈ s.changes, c.batch = none) (hone : s.OneEntryEach) (hne : s.changes ≠ []) :
    s.CommitLeaves (s.putInFlight.applyInFlight s.putInFlight.txHeld) := by
  have hcount : s.stagedCount = s.changes.length := State.stagedCount_eq_length h
  have hpos : s.changes.length ≠ 0 := mt List.length_eq_zero_iff.mp hne
  have hheld : s.putInFlight.txHeld = s.txHeld := rfl
  have hsum := State.putInFlight_inFlightCount h s.txHeld
  have hlaw := State.putInFlight_batchLaw h (by rw [hcount]; exact hpos)
  obtain ⟨hchanges, hbatch⟩ := State.applyInFlight_left hlaw s.txHeld
  rw [hheld]
  refine ⟨?_, fun d => ?_, by simp only [State.applyInFlight_fields]; rfl, ?_⟩
  · rw [hchanges, State.putInFlight_changes h, List.filter_map]
    rfl
  · rw [State.applyInFlight_appliedEntry (State.putInFlight_oneEntryEach h hone), (State.putInFlight_map h d).1]
    rfl
  · have hput : s.putInFlight.batch = some { id := s.nextBatch, count := s.changes.length, remaining := s.changes.length } := by
      rw [← hcount]
      rfl
    rw [hput] at hbatch
    dsimp only at hbatch ⊢
    generalize s.putInFlight.inFlightCount s.txHeld = applied at hbatch hsum
    generalize (s.changes.countP fun c => !s.txHeld c.destination.trunk) = left at hsum ⊢
    by_cases hleft : left = 0
    · rw [if_neg (by omega), if_pos (by omega)] at hbatch
      rw [if_pos hleft]
      exact hbatch
    · rw [if_neg hleft]
      by_cases hzero : applied = 0
      · rw [if_pos hzero] at hbatch
        rw [show left = s.changes.length by omega]
        exact hbatch
      · rw [if_neg hzero, if_neg (by omega), show s.changes.length - applied = left by omega] at hbatch
        exact hbatch

theorem handleCommit_of_batch {s : State} (h : s.batch ≠ none) : handleCommit s = refuse .inFlight s :=
  if_pos (Option.isSome_iff_ne_none.mpr h)

theorem handleCommit_of_none {s : State} (h : s.batch = none) :
    handleCommit s =
      if s.stagedCount = 0 then refuse .nothingStaged s
      else okWith [s.nextBatch, natByte s.stagedCount, natByte (s.putInFlight.inFlightOn s.putInFlight.txHeld).length]
        (s.putInFlight.applyInFlight s.putInFlight.txHeld) :=
  if_neg (by simp [h])

/-- Settles O43: `commit_leaves`, in the state in which the request is taken. -/
theorem commitPutsInFlight : Obligations.CommitPutsInFlight := by
  intro s h hbatch hone
  refine ⟨fun hsome => ?_, fun hnone hempty => ?_, fun hnone hne => ?_⟩
  · exact taken_refused_of_ready (i := .commit) (handler := handleCommit) .inFlight rfl h
      (handleCommit_of_batch (s := s.buffered _) hsome)
  · have hcount : s.stagedCount = 0 := by rw [State.stagedCount, hempty, List.countP_nil]
    exact taken_refused_of_ready (i := .commit) (handler := handleCommit) .nothingStaged rfl h
      ((handleCommit_of_none (s := s.buffered _) hnone).trans (if_pos hcount))
  · intro running count left
    have hall := hbatch.staged hnone
    have hrunning : running = fun c => !s.txHeld c.destination.trunk := by
      funext c
      rw [State.txHeld, Bool.beq_eq_decide_eq]
    have hcount : s.stagedCount = count := State.stagedCount_eq_length hall
    have hleave := State.commit_leaves (s := s.buffered ⟨0x37#8, []⟩) hall hone hne
    have happlied : (s.putInFlight.inFlightOn s.putInFlight.txHeld).length = count - left := by
      have hsum := State.putInFlight_inFlightCount hall s.txHeld
      rw [State.inFlightCount_eq, ← hrunning] at hsum
      exact (Nat.sub_eq_of_eq_add hsum.symm).symm
    have hhandler := (handleCommit_of_none (s := s.buffered ⟨0x37#8, []⟩) hnone).trans
      (if_neg (by rw [show (s.buffered ⟨0x37#8, []⟩).stagedCount = count from hcount]; exact mt List.length_eq_zero_iff.mp hne))
    obtain ⟨map, changes, batch, nextBatch, lastBatch, attention, heq⟩ :=
      State.commit_eq (s.buffered ⟨0x37#8, []⟩) (s.buffered ⟨0x37#8, []⟩).putInFlight.txHeld
    rw [heq] at hleave hhandler
    obtain ⟨hchanges, hentry, hnext, hleft⟩ := hleave
    refine ⟨{ s with map := map, changes := changes, batch := batch, nextBatch := nextBatch, lastBatch := lastBatch
                     attention := attention }, ?_, ?_, fun d hd => ?_, fun c hc => ?_, hnext, ?_, rfl⟩
    · have hanswer := taken_ok_of_ready (i := .commit) (handler := handleCommit)
        (u := { s with map := map, changes := changes, batch := batch, nextBatch := nextBatch, lastBatch := lastBatch
                       attention := attention }) rfl h hhandler
      rw [← happlied, ← hcount]
      exact hanswer
    · rw [hrunning]
      exact hchanges
    · have hprojected : s.projected d = s.entry d := congrArg Prod.fst (State.projectedLayer_of_unchanged hd)
      refine (hentry d).trans ?_
      change (if s.txHeld d.trunk = true then s.projected d else s.entry d) = _
      rw [hprojected, ite_self]
    · have hprojected : s.projected c.destination = c.entry :=
        congrArg Prod.fst (State.projectedLayer_of_staged hone hc (hall c hc))
      refine (hentry c.destination).trans ?_
      change (if s.txHeld c.destination.trunk = true then s.projected c.destination else s.entry c.destination) = _
      rw [hprojected, hrunning]
      by_cases hheld : s.txHeld c.destination.trunk = true
      · exact (if_pos hheld).trans (if_neg (by simp [hheld])).symm
      · exact (if_neg hheld).trans (if_pos (by simp [hheld])).symm
    · change if s.changes.countP running = 0 then _ else _
      rw [hrunning]
      exact hleft

/-! ### The projected map through an application -/

/-- The map, the change list and the batch are the same in both states. -/
def State.SameMap (s u : State) : Prop := u.map = s.map ∧ u.changes = s.changes ∧ u.batch = s.batch

theorem State.SameMap.trans {s u v : State} (h : s.SameMap u) (h' : u.SameMap v) : s.SameMap v :=
  ⟨h'.1.trans h.1, h'.2.1.trans h.2.1, h'.2.2.trans h.2.2⟩

theorem State.SameMap.projected {s u : State} (h : s.SameMap u) (d : FullSlot) : u.projected d = s.projected d := by
  obtain ⟨hmap, hchanges, -⟩ := h
  have hentry : u.entry d = s.entry d := congrArg (fun m : Vector (Vector MapEntry 40) 8 => m[d.trunk][d.slot]) hmap
  rw [State.projected_eq, State.projected_eq, State.appliedEntry_eq, State.appliedEntry_eq, hchanges, hentry]

theorem State.SameMap.laws {s u : State} (h : s.SameMap u) (hbatch : s.BatchLaw) (hone : s.OneEntryEach) :
    u.BatchLaw ∧ u.OneEntryEach := by
  obtain ⟨-, hchanges, hb⟩ := h
  unfold State.BatchLaw State.OneEntryEach
  rw [hchanges, hb]
  exact ⟨hbatch, hone⟩

theorem State.sameMap_finish (s : State) : s.SameMap s.finish := by
  simp [State.SameMap]

theorem State.sameMap_offerRequest (s : State) (r : Request) : s.SameMap (s.offerRequest r) := by
  unfold State.offerRequest
  split
  · exact ⟨rfl, rfl, rfl⟩
  · exact ⟨rfl, rfl, rfl⟩

theorem State.sameMap_completeMessage (s : State) (m : List Byte) : s.SameMap (s.completeMessage m) := by
  unfold State.completeMessage
  dsimp only
  split
  · split
    · split
      · exact State.sameMap_offerRequest _ _
      · exact ⟨rfl, rfl, rfl⟩
    · exact ⟨rfl, rfl, rfl⟩
  · exact ⟨rfl, rfl, rfl⟩

theorem State.sameMap_settle (s : State) : s.SameMap s.settle := by
  have htap (u : State) : u.SameMap u.settleTap := by
    unfold State.settleTap
    split
    · exact State.SameMap.trans (u := u.endTapRun) ⟨rfl, rfl, rfl⟩ (State.sameMap_finish _)
    · exact ⟨rfl, rfl, rfl⟩
  have hmessage (u : State) : u.SameMap u.settleMessage := by
    unfold State.settleMessage
    split
    · exact (u.sameMap_completeMessage _).trans (State.sameMap_finish _)
    · exact ⟨rfl, rfl, rfl⟩
  have htimeout (u : State) : u.SameMap u.settleTimeout := by
    unfold State.settleTimeout
    split
    · exact State.SameMap.trans (u := u.timeOut) ⟨rfl, rfl, rfl⟩ (State.sameMap_finish _)
    · exact ⟨rfl, rfl, rfl⟩
  exact ((htap s).trans (hmessage _)).trans (htimeout _)

/-- What every body of an event does to the projected map, the event does. -/
theorem event_projected {body : State → State}
    (h : ∀ s : State, s.BatchLaw → s.OneEntryEach → ∀ d, (body s).projected d = s.projected d) {s : State} (hbatch : s.BatchLaw)
    (hone : s.OneEntryEach) : ∃ u, event body s = .next u ∧ ∀ d, u.projected d = s.projected d := by
  unfold event
  split
  · exact ⟨s, rfl, fun _ => rfl⟩
  · obtain ⟨hbatch', hone'⟩ := s.sameMap_settle.laws hbatch hone
    refine ⟨_, rfl, fun d => ?_⟩
    rw [(State.sameMap_finish _).projected, h _ hbatch' hone', s.sameMap_settle.projected]

theorem handleCommit_projected {s : State} (hbatch : s.BatchLaw) (hone : s.OneEntryEach) (d : FullSlot) :
    (handleCommit s).2.projected d = s.projected d := by
  by_cases hb : s.batch = none
  · rw [handleCommit_of_none hb]
    split
    · rfl
    · have hall := hbatch.staged hb
      exact ((State.applyInFlight_map (State.putInFlight_oneEntryEach hall hone) _ d).2).trans (State.putInFlight_map hall d).2
  · rw [handleCommit_of_batch hb]
    rfl

theorem State.transmitStart_projected {s : State} (hone : s.OneEntryEach) (t : TrunkId) (d : FullSlot) :
    (s.transmitStart t).projected d = s.projected d := by
  have hdrive : (s.armed t).SameMap ((s.armed t).driveFrame t) := by
    rw [State.driveFrame_fields]
    exact ⟨rfl, rfl, rfl⟩
  rw [State.transmitStart_eq_drive, hdrive.projected]
  exact (State.applyInFlight_map (s := s.modifyTrunk t _) hone _ d).2

/-- What a handler does to the projected map, the taking of its request does. -/
theorem serve_projected {handler : Handler}
    (h : ∀ s : State, s.BatchLaw → s.OneEntryEach → ∀ d, (handler s).2.projected d = s.projected d) (r : Request) {s : State}
    (hbatch : s.BatchLaw) (hone : s.OneEntryEach) :
    ∃ u, serve r handler s = .next u ∧ ∀ d, u.projected d = s.projected d := by
  refine event_projected (fun u hbatch hone d => ?_) hbatch hone
  dsimp only
  generalize hv : (if u.link.requestBuffer = some r then u else u.offerRequest r) = v
  have hsame : u.SameMap v := by
    rw [← hv]
    split
    · exact ⟨rfl, rfl, rfl⟩
    · exact u.sameMap_offerRequest r
  obtain ⟨hbatch', hone'⟩ := hsame.laws hbatch hone
  split
  · exact (h v hbatch' hone' d).trans (hsame.projected d)
  · exact hsame.projected d

/-- Settles O44: in every state, through what is due first, the check of the request buffer and the end of the event. -/
theorem applicationKeepsProjectedMap : Obligations.ApplicationKeepsProjectedMap := by
  rintro s i hbatch hone (rfl | ⟨t, rfl⟩)
  · exact serve_projected (handler := handleCommit) (fun _ => handleCommit_projected) ⟨0x37#8, []⟩ hbatch hone
  · rw [exec_transmitFrameStart]
    refine event_projected (fun u hbatch hone d => ?_) hbatch hone
    unfold State.frameStart
    split
    · exact State.transmitStart_projected hone t d
    · rfl

end Sys2Proof.Machine
end

section
/-! PROOFS. The capture tap, the playout queue, the attention unit and the fault log by their commands (R98, R127, R130 to R133, R136,
R139, R140, R142 to R152). -/

namespace Sys2Proof.Machine

/-! ### The capture tap -/

theorem handleTapStart_of_resolved {s : State} {r : SlotRef} {d : FullSlot} (h : s.SourceIs r d) (count : Value) :
    handleTapStart r count s =
      if s.tap.active then refuse .tapBusy s else okWith d.bytes { s with tap := .started d count } := by
  unfold handleTapStart
  rw [resolveSource_eq_some h]

theorem handleTapStart_of_unresolved {s : State} {r : SlotRef} (h : ¬∃ d, s.SourceIs r d) (count : Value) :
    handleTapStart r count s = refuse .range s := by
  unfold handleTapStart
  rw [resolveSource_eq_none h]

/-- Settles O46. -/
theorem tapRuns : Obligations.TapRuns := by
  refine ⟨fun s r count h => ⟨fun hd => ?_, fun d hd => ?_⟩, fun s h => ?_, fun s hreset hactive hremaining => ?_⟩
  · exact taken_refused_of_ready (i := .tapStart r count) (handler := handleTapStart r count) .range rfl h
      (handleTapStart_of_unresolved (s := s.buffered _) hd count)
  · have hhandler := handleTapStart_of_resolved (s := s.buffered ⟨0x40#8, r.bytes ++ bytes2 count⟩) hd count
    split
    next hactive =>
      exact taken_refused_of_ready (i := .tapStart r count) (handler := handleTapStart r count) .tapBusy rfl h
        (hhandler.trans (if_pos hactive))
    next hidle =>
      exact taken_ok_of_ready (i := .tapStart r count) (handler := handleTapStart r count) rfl h
        (hhandler.trans (if_neg hidle))
  · split
    next hactive =>
      refine (taken_ok_of_ready (i := .tapStop) (handler := handleTapStop)
        (u := { s with tap := { s.tap with active := false } }) rfl h (if_pos hactive)).trans ?_
      dsimp only [State.buffered]
      unfold Remaining.bytes
      cases s.tap.remaining <;> rfl
    next hidle =>
      exact taken_refused_of_ready (i := .tapStop) (handler := handleTapStop) .state rfl h (if_neg hidle)
  · exact followOn_of_due hreset (by simp [State.tapEndDue, hactive, hremaining])

/-- Settles O47. -/
theorem readsRemoveOldest : Obligations.ReadsRemoveOldest := by
  refine ⟨fun s n hlow hhigh h => ?_, fun s n hn h => ?_, fun s n hlow hhigh h => ?_, fun s n hn h => ?_⟩
  · refine (taken_ok_of_ready (i := .tapRead n) (handler := handleTapRead n)
      (u := { s with tap := { s.tap with queue := s.tap.queue.drop n.toNat } }) rfl h (if_pos ⟨hlow, hhigh⟩)).trans ?_
    dsimp only [State.buffered]
    rw [List.length_take, List.length_drop]
    unfold Remaining.bytes
    cases s.tap.remaining <;> rfl
  · refine taken_refused_of_ready (i := .tapRead n) (handler := handleTapRead n) .range rfl h (if_neg fun hn' => ?_)
    obtain rfl | hn := hn
    · exact absurd hn'.1 (by decide)
    · omega
  · refine (taken_ok_of_ready (i := .logRead n) (handler := handleLogRead n)
      (u := { s with log := { s.log with records := s.log.records.drop n.toNat } }) rfl h (if_pos ⟨hlow, hhigh⟩)).trans ?_
    dsimp only [State.buffered]
    rw [List.length_take, List.length_drop]
    rfl
  · refine taken_refused_of_ready (i := .logRead n) (handler := handleLogRead n) .range rfl h (if_neg fun hn' => ?_)
    obtain rfl | hn := hn
    · exact absurd hn'.1 (by decide)
    · omega

/-! ### The playout queue -/

theorem handlePlayLoad_of_counted {values : List Value} (h : 1 ≤ values.length ∧ values.length ≤ 32) (s : State) :
    handlePlayLoad values s =
      let accepted := min values.length (64 - s.playout.queue.length)
      (⟨if accepted = values.length then .ok else .partly, [natByte accepted, natByte (s.playout.queue.length + accepted)]⟩,
        { s with playout := { s.playout with
            queue := s.playout.queue ++ values.take accepted
            episode := if accepted = 0 then s.playout.episode else false } }) := by
  have htake : values.take (64 - s.playout.queue.length) = values.take (min values.length (64 - s.playout.queue.length)) :=
    List.take_eq_take_iff.mpr (by omega)
  have hlength : (values.take (min values.length (64 - s.playout.queue.length))).length =
      min values.length (64 - s.playout.queue.length) := by
    rw [List.length_take]
    omega
  have hempty : (values.take (min values.length (64 - s.playout.queue.length))).isEmpty = true ↔
      min values.length (64 - s.playout.queue.length) = 0 := by
    rw [List.isEmpty_iff_length_eq_zero, hlength]
  have hcapacity : Config.queueCapacity = 64 := rfl
  refine (if_pos h).trans ?_
  simp only [hcapacity, htake, List.length_append, hlength, hempty]

theorem Status.code_ite (p : Prop) [Decidable p] (a b : Status) :
    Status.code (if p then a else b) = if p then a.code else b.code := apply_ite ..

/-- Where at most one element satisfies `p`, the search finds it. -/
theorem find?_eq_some_iff_of_unique {α : Type} {p : α → Bool} {xs : List α} (h : ∀ x y, p x = true → p y = true → x = y)
    {x : α} (hx : x ∈ xs) : xs.find? p = some x ↔ p x = true := by
  refine ⟨List.find?_some, fun hp => ?_⟩
  cases hfind : xs.find? p with
  | none => exact absurd hp (List.find?_eq_none.mp hfind x hx)
  | some y => rw [h y x (List.find?_some hfind) hp]

theorem State.playIn_of_projected {s : State} {d : FullSlot} (h : s.projected d = .play) : s.PlayIn d := by
  rw [State.projected_eq, State.appliedEntry_eq] at h
  cases hstaged : s.changes.find? (Change.stagedFor d) with
  | some c =>
    rw [hstaged] at h
    exact .inr ⟨c, List.mem_of_find?_eq_some hstaged, (Change.stagedFor_iff.mp (List.find?_some hstaged)).1, h⟩
  | none =>
    cases hflight : s.changes.find? (Change.inFlightFor d) with
    | some c =>
      rw [hstaged, hflight] at h
      exact .inr ⟨c, List.mem_of_find?_eq_some hflight, (Change.inFlightFor_iff.mp (List.find?_some hflight)).1, h⟩
    | none =>
      rw [hstaged, hflight] at h
      exact .inl h

/-- Settles O48. -/
theorem playoutCommands : Obligations.PlayoutCommands := by
  have hmem (d : FullSlot) : d ∈ allSlots := by simp [allSlots, allTrunks]
  refine ⟨fun s values hlow hhigh h => ?_, fun s values hbad h => ?_, fun s clear hplay h => ?_, fun s c hc h => ?_⟩
  · intro accepted
    have hexec := taken_of_ready (i := .playLoad values) rfl h (handlePlayLoad values)
    rw [handlePlayLoad_of_counted ⟨hlow, hhigh⟩] at hexec
    refine hexec.trans ?_
    dsimp only [Reply.payload]
    rw [Status.code_ite]
    rfl
  · refine taken_refused_of_ready (i := .playLoad values) (handler := handlePlayLoad values) .range rfl h (if_neg fun hn => ?_)
    obtain rfl | hbad := hbad
    · exact absurd hn.1 (by decide)
    · omega
  · refine ⟨s.playActive, s.playProjected, fun d => ?_, fun d => ?_, ?_⟩
    · refine (find?_eq_some_iff_of_unique (fun x y hx hy => ?_) (hmem d)).trans beq_iff_eq
      exact hplay x y (.inl (beq_iff_eq.mp hx)) (.inl (beq_iff_eq.mp hy))
    · refine (find?_eq_some_iff_of_unique (fun x y hx hy => ?_) (hmem d)).trans beq_iff_eq
      exact hplay x y (State.playIn_of_projected (beq_iff_eq.mp hx)) (State.playIn_of_projected (beq_iff_eq.mp hy))
    · have hhandler (u : State) : handlePlayStatus (boolByte clear) u =
          okWith u.playBytes (if clear then { u with playout := { u.playout with underruns := 0#16 } } else u) := by
        unfold handlePlayStatus
        rw [yesNo?_boolByte]
      refine taken_ok_of_ready (i := .playStatus _) (handler := handlePlayStatus _) rfl h ((hhandler _).trans ?_)
      cases clear <;> rfl
  · have hhandler (u : State) : handlePlayStatus c u = refuse .range u := by
      unfold handlePlayStatus
      rw [yesNo?_eq_none hc]
    exact taken_refused_of_ready (i := .playStatus c) (handler := handlePlayStatus c) .range rfl h (hhandler _)

/-! ### The attention unit -/

theorem bne_zero_iff_exists {w : Nat} {m : BitVec w} : (m != 0#w) = true ↔ ∃ n : Fin w, m.getLsbD n.val = true := by
  rw [bne_iff_ne, ← not_iff_not, not_not, not_exists]
  refine ⟨fun h n => by simp [h], fun h => BitVec.eq_of_getLsbD_eq fun i hi => ?_⟩
  rw [BitVec.getLsbD_zero]
  exact Bool.eq_false_iff.mpr (h ⟨i, hi⟩)

theorem State.attentionLine_iff {s : State} :
    s.attentionLine = true ↔
      ∃ n : Fin 12, s.attention.flags.getLsbD n.val = true ∧ s.attention.mask.getLsbD n.val = true := by
  unfold State.attentionLine Attention.pendingSources
  rw [bne_zero_iff_exists]
  simp only [BitVec.getLsbD_and, Bool.and_eq_true]

theorem sourceSet?_of_lt {v : Value} (h : v.toNat < 4096) : sourceSet? v = some (v.setWidth 12) := if_pos h

theorem sourceSet?_of_le {v : Value} (h : 4096 ≤ v.toNat) : sourceSet? v = none := if_neg (Nat.not_lt.mpr h)

theorem setWidth_getLsbD (v : Value) (n : Fin 12) : (v.setWidth 12).getLsbD n.val = v.getLsbD n.val := by
  simp

theorem setWidth_setWidth {v : Value} (h : v.toNat < 4096) : (v.setWidth 12).setWidth 16 = v :=
  BitVec.eq_of_toNat_eq (by rw [BitVec.toNat_setWidth, BitVec.toNat_setWidth]; omega)

theorem handleAck_of_named {sources : Value} (h : sources.toNat < 4096) (s : State) :
    handleAck sources s =
      okWith (s.attention.clear (sources.setWidth 12)).report.setBytes
        { s with attention := s.attention.clear (sources.setWidth 12) } := by
  unfold handleAck
  rw [sourceSet?_of_lt h]

theorem handleAck_of_unnamed {sources : Value} (h : 4096 ≤ sources.toNat) (s : State) :
    handleAck sources s = refuse .range s := by
  unfold handleAck
  rw [sourceSet?_of_le h]

theorem handleAttentionMask_of_named {sources : Value} (h : sources.toNat < 4096) (s : State) :
    handleAttentionMask sources s =
      okWith (bytes2 sources) { s with attention := s.attention.setMask (sources.setWidth 12) } := by
  unfold handleAttentionMask
  rw [sourceSet?_of_lt h]
  dsimp only
  rw [sourceSetBytes, setWidth_setWidth h]

theorem handleAttentionMask_of_unnamed {sources : Value} (h : 4096 ≤ sources.toNat) (s : State) :
    handleAttentionMask sources s = refuse .range s := by
  unfold handleAttentionMask
  rw [sourceSet?_of_le h]

theorem Attention.setMask_eq (a : Attention) (sources : Value) :
    a.setMask (sources.setWidth 12) =
      { a with
        mask := sources.setWidth 12
        noticeWaiting := a.noticeWaiting || decide (∃ n : Fin 12, a.flags.getLsbD n.val = true ∧
          sources.getLsbD n.val = true ∧ a.mask.getLsbD n.val = false) } := by
  have hasked : (a.flags &&& sources.setWidth 12 &&& ~~~a.mask != 0#12) = decide (∃ n : Fin 12,
      a.flags.getLsbD n.val = true ∧ sources.getLsbD n.val = true ∧ a.mask.getLsbD n.val = false) := by
    rw [Bool.eq_iff_iff, bne_zero_iff_exists, decide_eq_true_iff]
    refine exists_congr fun n => ?_
    rw [BitVec.getLsbD_and, BitVec.getLsbD_and, setWidth_getLsbD, BitVec.getLsbD_not]
    simp [and_assoc]
  unfold Attention.setMask
  rw [hasked]

/-- Settles O49. -/
theorem attentionCommands : Obligations.AttentionCommands := by
  refine ⟨fun s h => ?_, fun s sources hn h => ?_, fun s sources hn h => ?_, fun s sources hn => ⟨fun h => ?_, fun h => ?_⟩⟩
  · intro a
    have hline : boolByte s.attentionLine =
        if ∃ n : Fin 12, a.flags.getLsbD n.val = true ∧ a.mask.getLsbD n.val = true then 1#8 else 0#8 :=
      if_congr State.attentionLine_iff rfl rfl
    rw [← hline]
    exact taken_ok_of_ready (i := .attentionRead) (handler := handleAttentionRead) rfl h rfl
  · have hbit (n : Fin 12) := setWidth_getLsbD sources n
    have hset (n : Fin 12) := Bool.eq_iff_iff.mp (hbit n)
    refine ⟨s.attention.clear (sources.setWidth 12), fun n => ?_, if_congr (hset 0) rfl rfl,
      if_congr (hset 1) rfl rfl, if_congr (hset 2) rfl rfl,
      if_congr (hset 3) rfl rfl, if_congr (hset 4) rfl rfl,
      if_congr (hset 5) rfl rfl, rfl, rfl, ?_⟩
    · rw [Attention.clear, BitVec.getLsbD_and, BitVec.getLsbD_not, hbit]
      simp
    · exact taken_ok_of_ready (i := .ack sources) (handler := handleAck sources) rfl h (handleAck_of_named hn _)
  · rw [← Attention.setMask_eq]
    exact taken_ok_of_ready (i := .attentionMask sources) (handler := handleAttentionMask sources) rfl h
      (handleAttentionMask_of_named hn _)
  · exact taken_refused_of_ready (i := .ack sources) (handler := handleAck sources) .range rfl h (handleAck_of_unnamed hn _)
  · exact taken_refused_of_ready (i := .attentionMask sources) (handler := handleAttentionMask sources) .range rfl h
      (handleAttentionMask_of_unnamed hn _)

theorem groupBit_getLsbD (g g' : GroupId) : (groupBit g).getLsbD g'.val = decide (g' = g) := by
  revert g g'; decide

/-- The set of trunks after a raising. -/
theorem Attention.raise_rxLoss (a : Attention) (r : Raising) (t : TrunkId) :
    (a.raise r).rxLoss.getLsbD t.val = (a.rxLoss.getLsbD t.val || decide (r = .rxLoss t)) := by
  cases r <;> simp [Attention.raise, Attention.record, trunkBit_getLsbD, eq_comm, -BitVec.getLsbD_eq_getElem]

/-- The sets of groups after a raising. -/
theorem Attention.raise_groups (a : Attention) (r : Raising) (g : GroupId) :
    (a.raise r).refLost.getLsbD g.val = (a.refLost.getLsbD g.val || decide (r = .refLost g)) ∧
      (a.raise r).refChange.getLsbD g.val = (a.refChange.getLsbD g.val || decide (r = .refChange g)) ∧
      (a.raise r).degraded.getLsbD g.val = (a.degraded.getLsbD g.val || decide (r = .degraded g)) ∧
      (a.raise r).slip.getLsbD g.val = (a.slip.getLsbD g.val || decide (r = .slip g)) ∧
      (a.raise r).longFrame.getLsbD g.val = (a.longFrame.getLsbD g.val || decide (r = .longFrame g)) := by
  cases r <;> simp [Attention.raise, Attention.record, groupBit_getLsbD, eq_comm, -BitVec.getLsbD_eq_getElem]

/-- Settles O50. -/
theorem raisingsAndRecords : Obligations.RaisingsAndRecords := by
  refine ⟨fun a r => ⟨a.raise_getLsbD r, a.raise_rxLoss r, a.raise_groups r, a.raise_mask r, Attention.raise_noticeWaiting⟩,
    fun s => State.attentionLine_iff, fun s e => ⟨fun hroom => if_pos hroom, fun oldest rest hrecords hrest => ?_⟩⟩
  have hfull : ¬s.log.records.length < Config.logCapacity := by
    rw [hrecords, List.length_cons, hrest]
    decide
  refine (if_neg hfull).trans ?_
  rw [hrecords]
  rfl

end Sys2Proof.Machine
end

section
/-! PROOFS. Requests as rows and back (R163, R171, R172), and the laws at reset. -/

namespace Sys2Proof.Machine

/-! ### Bytes and numbers -/

theorem ofBytes_bytes (v : Value) : ofBytes (hiByte v) (loByte v) = v :=
  BitVec.extractLsb'_append_extractLsb'

theorem hiByte_ofBytes (hi lo : Byte) : hiByte (ofBytes hi lo) = hi := BitVec.extractLsb'_append_eq_left

theorem loByte_ofBytes (hi lo : Byte) : loByte (ofBytes hi lo) = lo := BitVec.extractLsb'_append_eq_right

theorem bytes2_ofBytes (hi lo : Byte) : bytes2 (ofBytes hi lo) = [hi, lo] := by
  rw [bytes2, hiByte_ofBytes, loByte_ofBytes]

theorem slotSetOfBytes_bytes (m : SlotSet) :
    slotSetOfBytes (m.extractLsb' 0 8) (m.extractLsb' 8 8) (m.extractLsb' 16 8) (m.extractLsb' 24 8) (m.extractLsb' 32 8) = m := by
  unfold slotSetOfBytes
  rw [BitVec.extractLsb'_append_extractLsb'_eq_extractLsb' (by decide),
    BitVec.extractLsb'_append_extractLsb'_eq_extractLsb' (by decide),
    BitVec.extractLsb'_append_extractLsb'_eq_extractLsb' (by decide),
    BitVec.extractLsb'_append_extractLsb'_eq_extractLsb' (by decide)]
  exact BitVec.extractLsb'_eq_self

theorem slotSetBytes_ofBytes (a b c d e : Byte) : slotSetBytes (slotSetOfBytes a b c d e) = [a, b, c, d, e] := by
  have hlow {n k : Nat} (x : BitVec n) (y : Byte) : (x ++ y).extractLsb' (8 + k) 8 = x.extractLsb' k 8 :=
    (BitVec.extractLsb'_append_eq_of_le (Nat.le_add_right 8 k)).trans (by rw [Nat.add_sub_cancel_left])
  unfold slotSetBytes slotSetOfBytes
  refine congrArg₂ _ BitVec.extractLsb'_append_eq_right (congrArg₂ _ ?_ (congrArg₂ _ ?_ (congrArg₂ _ ?_ (congrArg₂ _ ?_ rfl))))
  · exact (hlow (k := 0) _ _).trans BitVec.extractLsb'_append_eq_right
  · exact (hlow (k := 8) _ _).trans ((hlow (k := 0) _ _).trans BitVec.extractLsb'_append_eq_right)
  · exact (hlow (k := 16) _ _).trans ((hlow (k := 8) _ _).trans ((hlow (k := 0) _ _).trans BitVec.extractLsb'_append_eq_right))
  · exact (hlow (k := 24) _ _).trans ((hlow (k := 16) _ _).trans ((hlow (k := 8) _ _).trans BitVec.extractLsb'_append_eq_left))

theorem valuesOfBytes_valueBytes (values : List Value) : valuesOfBytes (valueBytes values) = values := by
  induction values with
  | nil => rfl
  | cons v values ih =>
    change ofBytes (hiByte v) (loByte v) :: valuesOfBytes (valueBytes values) = _
    rw [ofBytes_bytes, ih]

theorem valueBytes_valuesOfBytes {bytes : List Byte} {n : Nat} (h : bytes.length = 2 * n) :
    valueBytes (valuesOfBytes bytes) = bytes ∧ (valuesOfBytes bytes).length = n := by
  induction n generalizing bytes with
  | zero =>
    rw [List.length_eq_zero_iff.mp h]
    exact ⟨rfl, rfl⟩
  | succ n ih =>
    match bytes, h with
    | hi :: lo :: rest, h =>
      obtain ⟨hbytes, hlength⟩ := ih (bytes := rest) (by simp at h; omega)
      refine ⟨?_, congrArg (· + 1) hlength⟩
      change bytes2 (ofBytes hi lo) ++ valueBytes (valuesOfBytes rest) = _
      rw [bytes2_ofBytes, hbytes]
      rfl

/-! ### From a row to its request and back -/

theorem decodeRequest_of_sized {code : Byte} {payload : List Byte} (hknown : knownCode code = true)
    (hsize : payloadSizeRight code payload = true) (time : Time) :
    decodeRequest time ⟨code, payload⟩ = decodeSized time code payload := by
  rw [decodeRequest, if_pos hknown, if_pos hsize]

theorem payloadSizeRight_playLoad (c : Byte) (rest : List Byte) :
    payloadSizeRight playLoadCode (c :: rest) = true ↔ rest.length = 2 * c.toNat := by
  rw [payloadSizeRight, if_pos rfl, beq_iff_eq, List.length_cons]
  omega

theorem decodeSized_playLoad (time : Time) (payload : List Byte) :
    decodeSized time playLoadCode payload = some (.playLoad (valuesOfBytes payload.tail)) := if_pos rfl

/-- A well-formed row that stands for a request is the row that takes it. -/
theorem decodeRequest_encodeRequest {i : Instr} {r : Request} (hw : i.wellFormed = true) (hr : encodeRequest i = some r)
    (time : Time) : decodeRequest time r = some (i.takenAt time) := by
  cases i with
  | unknownCommand code payload =>
    cases hr
    have hknown : ¬knownCode code = true := by
      have := (Bool.and_eq_true_iff.mp hw).1
      simpa using this
    rw [decodeRequest, if_neg hknown]
    rfl
  | payloadSizeWrong code payload =>
    cases hr
    obtain ⟨hknown, hsize⟩ := Bool.and_eq_true_iff.mp (Bool.and_eq_true_iff.mp hw).1
    rw [decodeRequest, if_pos hknown, if_neg (by simpa using hsize)]
    rfl
  | playLoad values =>
    cases hr
    have hcount : (BitVec.ofNat 8 values.length).toNat = values.length :=
      natByte_toNat (by have := of_decide_eq_true hw; omega)
    rw [decodeRequest_of_sized rfl ((payloadSizeRight_playLoad _ _).mpr (by rw [hcount, Laws.Requests.valueBytes_length])),
      decodeSized_playLoad, List.tail_cons, valuesOfBytes_valueBytes]
    rfl
  | format a l w idle e =>
    cases hr
    change some (Instr.format a l w (ofBytes (hiByte idle) (loByte idle)) e) = _
    rw [ofBytes_bytes]
    rfl
  | setMask a b slots =>
    cases hr
    exact congrArg (fun m => some (Instr.setMask a b m)) (slotSetOfBytes_bytes slots)
  | groupSet g k j grace policy rate limit =>
    cases hr
    change some (Instr.groupSet g k j (ofBytes (hiByte grace) (loByte grace)) policy rate
      (ofBytes (hiByte limit) (loByte limit))) = _
    rw [ofBytes_bytes, ofBytes_bytes]
    rfl
  | stageForce d v =>
    cases hr
    exact congrArg (fun v => some (Instr.stageForce d v)) (ofBytes_bytes v)
  | tapStart d count =>
    cases hr
    exact congrArg (fun v => some (Instr.tapStart d v)) (ofBytes_bytes count)
  | ack sources =>
    cases hr
    exact congrArg (fun v => some (Instr.ack v)) (ofBytes_bytes sources)
  | attentionMask sources =>
    cases hr
    exact congrArg (fun v => some (Instr.attentionMask v)) (ofBytes_bytes sources)
  | _ => cases hr <;> rfl

/-! ### From a request to its row and back -/

/-- A row is well-formed and stands for this request. -/
def Instr.StandsFor (r : Request) (row : Option Instr) : Prop :=
  ∃ i, row = some i ∧ i.wellFormed = true ∧ encodeRequest i = some r

theorem decodeNullary_standsFor {code : Byte} (h : fixedPayloadSize code = some 0) :
    Instr.StandsFor ⟨code, []⟩ (decodeNullary code) := by
  have hcodes : ∀ code : Byte, fixedPayloadSize code = some 0 →
      code ∈ [0x01#8, 0x02#8, 0x04#8, 0x36#8, 0x37#8, 0x38#8, 0x41#8, 0x49#8, 0x50#8, 0x59#8] := by decide +kernel
  have hcode := hcodes code h
  simp only [List.mem_cons, List.not_mem_nil, or_false] at hcode
  rcases hcode with rfl | rfl | rfl | rfl | rfl | rfl | rfl | rfl | rfl | rfl <;> exact ⟨_, rfl, rfl, rfl⟩

theorem decodeUnary_standsFor {code : Byte} (h : fixedPayloadSize code = some 1) (time : Time) (a : Byte) :
    Instr.StandsFor ⟨code, [a]⟩ (decodeUnary time code a) := by
  have hcodes : ∀ code : Byte, fixedPayloadSize code = some 1 →
      code ∈ [0x05#8, 0x12#8, 0x13#8, 0x14#8, 0x15#8, 0x22#8, 0x23#8, 0x24#8, 0x42#8, 0x4A#8, 0x58#8] := by decide +kernel
  have hcode := hcodes code h
  simp only [List.mem_cons, List.not_mem_nil, or_false] at hcode
  rcases hcode with rfl | rfl | rfl | rfl | rfl | rfl | rfl | rfl | rfl | rfl | rfl <;> exact ⟨_, rfl, rfl, rfl⟩

theorem decodeBinary_standsFor {code : Byte} (h : fixedPayloadSize code = some 2) (a b : Byte) :
    Instr.StandsFor ⟨code, [a, b]⟩ (decodeBinary code a b) := by
  have hcodes : ∀ code : Byte, fixedPayloadSize code = some 2 →
      code ∈ [0x51#8, 0x52#8, 0x03#8, 0x11#8, 0x21#8, 0x28#8, 0x29#8, 0x31#8, 0x33#8, 0x34#8, 0x35#8, 0x39#8] := by
    decide +kernel
  have hcode := hcodes code h
  simp only [List.mem_cons, List.not_mem_nil, or_false] at hcode
  obtain rfl | rfl | hcode := hcode
  · exact ⟨_, rfl, rfl, congrArg (fun p => some (Request.mk 0x51#8 p)) (bytes2_ofBytes a b)⟩
  · exact ⟨_, rfl, rfl, congrArg (fun p => some (Request.mk 0x52#8 p)) (bytes2_ofBytes a b)⟩
  · rcases hcode with rfl | rfl | rfl | rfl | rfl | rfl | rfl | rfl | rfl | rfl <;> exact ⟨_, rfl, rfl, rfl⟩

theorem decodeQuaternary_standsFor {code : Byte} (h : fixedPayloadSize code = some 4) (a b c d : Byte) :
    Instr.StandsFor ⟨code, [a, b, c, d]⟩ (decodeQuaternary code a b c d) := by
  have hcodes : ∀ code : Byte, fixedPayloadSize code = some 4 → code ∈ [0x30#8, 0x3A#8, 0x32#8, 0x40#8] := by decide +kernel
  have hcode := hcodes code h
  simp only [List.mem_cons, List.not_mem_nil, or_false] at hcode
  obtain rfl | rfl | rfl | rfl := hcode
  · exact ⟨_, rfl, rfl, rfl⟩
  · exact ⟨_, rfl, rfl, rfl⟩
  · exact ⟨_, rfl, rfl, congrArg (fun p => some (Request.mk 0x32#8 (a :: b :: p))) (bytes2_ofBytes c d)⟩
  · exact ⟨_, rfl, rfl, congrArg (fun p => some (Request.mk 0x40#8 (a :: b :: p))) (bytes2_ofBytes c d)⟩

/-- The codes of the three commands with longer payloads, and that no other size occurs. -/
theorem fixedPayloadSize_long : ∀ code : Byte, ∀ n ∈ fixedPayloadSize code,
    n ∈ [0, 1, 2, 4] ∨ (n = 6 ∧ code = 0x10#8) ∨ (n = 7 ∧ code = 0x16#8) ∨ (n = 9 ∧ code = 0x20#8) := by decide +kernel

theorem decodeSized_standsFor {code : Byte} {payload : List Byte} (hcode : code ≠ playLoadCode)
    (h : fixedPayloadSize code = some payload.length) (time : Time) :
    Instr.StandsFor ⟨code, payload⟩ (decodeSized time code payload) := by
  have hlong := fixedPayloadSize_long code _ h
  unfold decodeSized
  rw [if_neg hcode]
  match payload with
  | [] => exact decodeNullary_standsFor h
  | [a] => exact decodeUnary_standsFor h time a
  | [a, b] => exact decodeBinary_standsFor h a b
  | [_, _, _] => simp at hlong
  | [a, b, c, d] => exact decodeQuaternary_standsFor h a b c d
  | [_, _, _, _, _] => simp at hlong
  | [a, b, c, d, e, f] =>
    obtain rfl : code = 0x10#8 := by simpa using hlong
    refine ⟨_, if_pos rfl, rfl, ?_⟩
    rw [encodeRequest, hiByte_ofBytes, loByte_ofBytes]
  | [a, b, c, d, e, f, g] =>
    obtain rfl : code = 0x16#8 := by simpa using hlong
    exact ⟨_, if_pos rfl, rfl, congrArg (fun p => some (Request.mk 0x16#8 (a :: b :: p))) (slotSetBytes_ofBytes c d e f g)⟩
  | [_, _, _, _, _, _, _, _] => simp at hlong
  | [a, b, c, d, e, f, g, x, y] =>
    obtain rfl : code = 0x20#8 := by simpa using hlong
    refine ⟨_, if_pos rfl, rfl, ?_⟩
    rw [encodeRequest, hiByte_ofBytes, loByte_ofBytes, hiByte_ofBytes, loByte_ofBytes]
  | _ :: _ :: _ :: _ :: _ :: _ :: _ :: _ :: _ :: _ :: _ => simp at hlong

/-- Settles O52. -/
theorem requestsRoundTrip : Obligations.RequestsRoundTrip := by
  refine ⟨fun time i r hw hr => decodeRequest_encodeRequest hw hr time, fun time r hlength => ?_⟩
  obtain ⟨code, payload⟩ := r
  by_cases hknown : knownCode code = true
  · by_cases hsize : payloadSizeRight code payload = true
    · rw [decodeRequest_of_sized hknown hsize]
      by_cases hcode : code = playLoadCode
      · subst hcode
        match payload, hsize with
        | c :: rest, hsize =>
          have hrest := (payloadSizeRight_playLoad c rest).mp hsize
          obtain ⟨hbytes, hvalues⟩ := valueBytes_valuesOfBytes hrest
          refine ⟨.playLoad (valuesOfBytes rest), if_pos rfl, decide_eq_true ?_, ?_⟩
          · have : rest.length + 1 ≤ 200 := hlength
            omega
          · rw [encodeRequest, hvalues, hbytes, BitVec.ofNat_toNat, BitVec.setWidth_eq]
      · unfold payloadSizeRight at hsize
        rw [if_neg hcode, beq_iff_eq] at hsize
        exact decodeSized_standsFor hcode hsize time
    · refine ⟨.payloadSizeWrong code payload, by rw [decodeRequest, if_pos hknown, if_neg hsize], ?_, rfl⟩
      simp [Instr.wellFormed, hknown, hsize, maxPayload, hlength]
  · refine ⟨.unknownCommand code payload, by rw [decodeRequest, if_neg hknown], ?_, rfl⟩
    simp [Instr.wellFormed, hknown, maxPayload, hlength]

/-! ### The laws at reset -/

/-- Settles O53: the machine after power-on is the machine after a POWER reset. -/
theorem lawsHoldAtReset : Obligations.LawsHoldAtReset := by
  have hreset : State.reset = State.reset.resetBy .power := rfl
  have houtgoing : State.reset.OutgoingLaw := by decide
  obtain ⟨hbatch, hone⟩ := State.reset.resetBy_batchLaw .power
  rw [← hreset] at hbatch hone
  refine ⟨?_, ?_, houtgoing, ?_, ?_, ?_, ?_, hone, hbatch, ?_, ?_, ?_, ?_, ?_, ?_, ?_⟩ <;> rw [hreset]
  · exact State.resetBy_bounded .power (Nat.zero_le 16)
  · exact State.resetBy_flagsMatchSets _ _
  · exact State.resetBy_timingLaw _ _
  · exact State.resetBy_followLaw _ _
  · exact State.resetBy_markLaw _ _
  · exact State.resetBy_storeLaw _ _
  · exact State.resetBy_flightLaw _ _
  · exact State.resetBy_slotLaw _ _
  · exact State.resetBy_maskLaw _ _
  · exact State.resetBy_onePlay _ _
  · exact State.resetBy_fanoutLaw _ _
  · exact State.resetBy_valueLaw _ _
  · exact State.resetBy_clockLaw _ _

end Sys2Proof.Machine
end

section
/-! SUPPORT and PROOFS. What is due comes first (R28, R47, R77, R130, R158, R162; logs 4, 5 and 6): to take it as an event of its
own, before a command that takes it anyway, changes nothing. -/

namespace Sys2Proof.Machine

/-! ### Events that follow at once -/

theorem State.settleTap_settles (s : State) : s.settleTap.tapEndDue = false ∧ ∃ tap link attention,
    s.settleTap = { s with tap := tap, link := link, attention := attention } ∧ link.phase = s.link.phase := by
  unfold State.settleTap
  split
  next h =>
    obtain ⟨out, w, hfinish⟩ := s.endTapRun.finish_eq
    rw [hfinish]
    exact ⟨rfl, _, _, _, rfl, rfl⟩
  next h => exact ⟨by simpa using h, s.tap, s.link, s.attention, rfl, rfl⟩

theorem State.completeMessage_outside (s : State) (m : List Byte) : ∃ buffer discards last attention,
    s.completeMessage m =
      { s with
        link := { s.link with completed := none, requestBuffer := buffer, discards := discards, lastDiscard := last }
        attention := attention } := by
  have hoffer (u : State) (r : Request) : ∃ buffer discards last attention, u.offerRequest r =
      { u with
        link := { u.link with requestBuffer := buffer, discards := discards, lastDiscard := last }, attention := attention } := by
    unfold State.offerRequest
    split
    · exact ⟨_, u.link.discards, u.link.lastDiscard, u.attention, rfl⟩
    · exact ⟨u.link.requestBuffer, _, _, _, rfl⟩
  unfold State.completeMessage
  dsimp only
  split
  · split
    · split
      · obtain ⟨b, d, l, a, h⟩ := hoffer { s with link := { s.link with completed := none } } _
        rw [h]
        exact ⟨_, _, _, _, rfl⟩
      · exact ⟨s.link.requestBuffer, _, _, _, rfl⟩
    · exact ⟨s.link.requestBuffer, _, _, _, rfl⟩
  · exact ⟨s.link.requestBuffer, _, _, _, rfl⟩

theorem State.settleMessage_settles (s : State) :
    s.settleMessage.link.completed = none ∧ s.settleMessage.tap = s.tap ∧ s.settleMessage.link.phase = s.link.phase := by
  unfold State.settleMessage
  split
  next m _ =>
    obtain ⟨b, d, l, a, h⟩ := s.completeMessage_outside m
    rw [h]
    simp
  next h => exact ⟨h, rfl, rfl⟩

theorem State.settleTimeout_settles (s : State) :
    s.settleTimeout.timeoutDue = false ∧ s.settleTimeout.link.completed = s.link.completed ∧
      s.settleTimeout.tap = s.tap ∧ s.settleTimeout.link.phase = s.link.phase := by
  unfold State.settleTimeout
  split
  next h =>
    obtain ⟨out, w, hfinish⟩ := s.timeOut.finish_eq
    rw [hfinish]
    exact ⟨rfl, rfl, rfl, rfl⟩
  next h => exact ⟨by simpa using h, rfl, rfl, rfl⟩

theorem State.inReset_congr {s u : State} (h : u.link.phase = s.link.phase) : u.inReset = s.inReset := by
  simp only [State.inReset, h]

theorem State.tapEndDue_congr {s u : State} (h : u.tap = s.tap) : u.tapEndDue = s.tapEndDue := by
  simp only [State.tapEndDue, h]

theorem State.settle_settled {s : State} (h : s.inReset = false) : s.settle.Settled := by
  obtain ⟨hend, _, _, _, htap, hphase⟩ := s.settleTap_settles
  obtain ⟨hcompleted, htap', hphase'⟩ := s.settleTap.settleMessage_settles
  obtain ⟨htimeout, hcompleted', htap'', hphase''⟩ := s.settleTap.settleMessage.settleTimeout_settles
  refine ⟨?_, ?_, hcompleted'.trans hcompleted, htimeout⟩
  · rw [← h]
    exact State.inReset_congr (hphase''.trans (hphase'.trans (by rw [htap]; exact hphase)))
  · rw [← hend]
    exact State.tapEndDue_congr (htap''.trans htap')

theorem event_settle {s : State} (h : s.inReset = false) (body : State → State) : event body s = event body s.settle := by
  rw [event_of_settled (State.settle_settled h), event, if_neg (by simp [h])]

/-! ### The link beside a boundary -/

/-- Of the link the outgoing queue alone, and nothing of the tap, differs. -/
def State.SameInput (s u : State) : Prop := u.tap = s.tap ∧ ∃ outgoing, u.link = { s.link with outgoing := outgoing }

theorem State.SameInput.settled {s u : State} (h : s.SameInput u) (hs : s.Settled) : u.Settled := by
  obtain ⟨htap, outgoing, hlink⟩ := h
  obtain ⟨hreset, hend, hcompleted, htimeout⟩ := hs
  refine ⟨(State.inReset_congr (by rw [hlink])).trans hreset, (State.tapEndDue_congr htap).trans hend, ?_, ?_⟩
  · rw [hlink]
    exact hcompleted
  · rw [State.timeoutDue, hlink]
    exact htimeout

theorem State.SameInput.ready {s u : State} {r : Request} (h : s.SameInput u) (hs : s.Ready r)
    (hreply : u.replyWaiting = false) : u.Ready r := by
  obtain ⟨hsettled, hphase, hbuffer, -⟩ := hs
  refine ⟨h.settled hsettled, ?_, ?_, hreply⟩
  · obtain ⟨-, outgoing, hlink⟩ := h
    rw [hlink]
    exact hphase
  · obtain ⟨-, outgoing, hlink⟩ := h
    rw [hlink]
    exact hbuffer

theorem State.SameInput.trans {s u v : State} (h : s.SameInput u) (h' : u.SameInput v) : s.SameInput v := by
  obtain ⟨htap, outgoing, hlink⟩ := h
  obtain ⟨htap', outgoing', hlink'⟩ := h'
  exact ⟨htap'.trans htap, outgoing', by rw [hlink', hlink]⟩

theorem State.sameInput_finish (s : State) : s.SameInput s.finish := by
  obtain ⟨outgoing, _, h⟩ := s.finish_eq
  rw [h]
  exact ⟨rfl, outgoing, rfl⟩

theorem State.sameInput_takeBoundary (s : State) (g : GroupId) (b : Boundary) : s.SameInput (s.takeBoundary g b) := by
  obtain ⟨_, _, _, _, _, _, _, _, outgoing, hstarts⟩ := s.settleStarts_eq g
  obtain ⟨_, _, _, _, hboundary⟩ := (s.settleStarts g).boundary_eq g b
  rw [State.takeBoundary, hboundary, hstarts]
  exact ⟨rfl, outgoing, rfl⟩

theorem State.sameInput_settleBoundary (s : State) (g : GroupId) : s.SameInput (s.settleBoundary g) := by
  unfold State.settleBoundary
  split
  · exact (s.sameInput_takeBoundary g _).trans (State.sameInput_finish _)
  · exact ⟨rfl, s.link.outgoing, rfl⟩

theorem State.sameInput_transmitStart (s : State) (t : TrunkId) : s.SameInput (s.transmitStart t).finish := by
  obtain ⟨_, _, _, _, _, _, _, _, h⟩ := s.transmitStart_eq t
  refine State.SameInput.trans ?_ (State.sameInput_finish _)
  rw [h]
  exact ⟨rfl, s.link.outgoing, rfl⟩

/-! ### A boundary taken as an event of its own -/

theorem State.dueBoundary_finish {s : State} {g : GroupId} (h : (s.group g).due ≠ none) :
    (s.dueBoundary g).finish = s.settleBoundary g := by
  obtain ⟨b, hb⟩ := Option.ne_none_iff_exists'.mp h
  rw [State.dueBoundary, State.settleBoundary, hb]

theorem exec_groupBoundary_of_due {s : State} {g : GroupId} (hs : s.Settled) (h : (s.group g).due ≠ none) :
    exec (.groupBoundary g) s = .next (s.settleBoundary g) := by
  rw [exec_groupBoundary, event_of_settled hs, State.dueBoundary_finish h]

theorem State.settleFollower_of_follows {s : State} {t : TrunkId} (h : (s.group (s.trunk t).group).follows t = true) :
    s.settleFollower t = s.settleBoundary (s.trunk t).group := if_pos h

theorem State.settleStopped_of_last {s : State} {t : TrunkId} (h : s.lastRunMember t = true) :
    s.settleStopped t = s.settleBoundary (s.trunk t).group := if_pos h

theorem State.settleFollower_settleBoundary (s : State) (t : TrunkId) :
    (s.settleBoundary (s.trunk t).group).settleFollower t = s.settleBoundary (s.trunk t).group :=
  State.settleFollower_of_none fun _ => by rw [State.settleBoundary_trunk_group, State.settleBoundary_due]

theorem State.settleStopped_settleBoundary (s : State) (t : TrunkId) :
    (s.settleBoundary (s.trunk t).group).settleStopped t = s.settleBoundary (s.trunk t).group :=
  State.settleStopped_of_none fun _ => by rw [State.settleBoundary_trunk_group, State.settleBoundary_due]

theorem State.frameEnd_settleBoundary {s : State} {t : TrunkId} (hf : (s.group (s.trunk t).group).follows t = true)
    {marker : Bool} (hc : (s.trunk t).rx.completes marker = true) (time : Time) (line : LineBits) :
    (s.settleBoundary (s.trunk t).group).frameEnd t time marker line = s.frameEnd t time marker line := by
  rw [State.frameEnd, State.frameEnd, State.settleBoundary_trunk_rx, if_pos hc, if_pos hc,
    State.settleFollower_settleBoundary, State.settleFollower_of_follows hf]

theorem State.loss_settleBoundary {s : State} {t : TrunkId} (hf : (s.group (s.trunk t).group).follows t = true)
    (hl : (s.trunk t).rx.losesAlignment = true) (time : Time) :
    (s.settleBoundary (s.trunk t).group).loss t time = s.loss t time := by
  rw [State.loss, State.loss, State.settleBoundary_trunk_rx, if_pos hl, if_pos hl,
    State.settleFollower_settleBoundary, State.settleFollower_of_follows hf]

theorem State.buffered_of_some {s : State} {r : Request} (h : s.link.requestBuffer = some r) : s.buffered r = s := by
  rw [State.buffered, ← h]

/-- A ready request whose rule takes a boundary first is answered alike once that boundary has been taken. -/
theorem taken_of_boundaryTaken {i : Instr} {r : Request} (hr : encodeRequest i = some r) {handler : Handler} {s u : State}
    (h : s.Ready r) {g : GroupId} (hdue : (s.group g).due ≠ none) (hu : exec (.groupBoundary g) (s.buffered r) = .next u)
    (hsame : handler ((s.buffered r).settleBoundary g) = handler (s.buffered r)) : taken i handler s = taken i handler u := by
  have hbuffered : (s.buffered r).Ready r := by
    obtain ⟨hs, hphase, -, hreply⟩ := h
    exact ⟨hs, hphase, .inr rfl, hreply⟩
  rw [exec_groupBoundary_of_due hbuffered.1 hdue] at hu
  obtain rfl := Host.Outcome.next.inj hu
  have hinput := (s.buffered r).sameInput_settleBoundary g
  have hready := hinput.ready hbuffered (((s.buffered r).moves_settleBoundary g).replyWaiting hbuffered.2.2.2)
  have hkept : ((s.buffered r).settleBoundary g).buffered r = (s.buffered r).settleBoundary g := by
    have hbuffer : ((s.buffered r).settleBoundary g).link.requestBuffer = some r := by
      obtain ⟨-, outgoing, hlink⟩ := hinput
      rw [hlink]
      rfl
    exact State.buffered_of_some hbuffer
  rw [taken_of_ready hr h, taken_of_ready hr hready, hkept, hsame]

theorem handleRxHold_settleBoundary {s : State} {t : TrunkId} (hf : (s.group (s.trunk t).group).follows t = true)
    (time : Time) :
    handleRxHold time (trunkByte t) (s.settleBoundary (s.trunk t).group) = handleRxHold time (trunkByte t) s := by
  simp only [handleRxHold, trunk?_trunkByte]
  rw [State.settleFollower_settleBoundary, State.settleFollower_of_follows hf]

theorem handleTxHold_settleBoundary {s : State} {t : TrunkId} (hl : s.lastRunMember t = true) :
    handleTxHold (trunkByte t) (s.settleBoundary (s.trunk t).group) = handleTxHold (trunkByte t) s := by
  simp only [handleTxHold, trunk?_trunkByte]
  rw [State.settleStopped_settleBoundary, State.settleStopped_of_last hl]

theorem handleRevert_settleBoundary (s : State) (g : GroupId) (hstate : (s.group g).state = .standby)
    (haligned : s.primaryAligned g = true) :
    handleRevert (groupByte g) (s.settleBoundary g) = handleRevert (groupByte g) s := by
  rw [handleRevert_of_named, handleRevert_of_named, State.settleBoundary_state, State.settleBoundary_primaryAligned,
    State.settleBoundary_of_none (s.settleBoundary_due g), hstate, haligned]
  rfl

/-! ### A start taken as an event of its own -/

theorem State.settleStart_of_none {s : State} {g : GroupId} {t : TrunkId}
    (h : (s.trunk t).runMember g = true → (s.trunk t).tx.startDue = false) : s.settleStart g t = s := by
  unfold State.settleStart
  rw [if_neg]
  simpa using h

theorem State.settleStart_of_due {s : State} {g : GroupId} {t : TrunkId} (hrun : (s.trunk t).runMember g = true)
    (hdue : (s.trunk t).tx.startDue = true) : s.settleStart g t = (s.transmitStart t).finish := by
  unfold State.settleStart
  rw [if_pos]
  rw [hrun, hdue]
  rfl

theorem foldl_settleStart_of_none {s : State} {g : GroupId} {ts : List TrunkId}
    (h : ∀ t ∈ ts, (s.trunk t).runMember g = true → (s.trunk t).tx.startDue = false) :
    ts.foldl (State.settleStart g) s = s := by
  induction ts with
  | nil => rfl
  | cons t ts ih =>
    rw [List.foldl_cons, State.settleStart_of_none (h t List.mem_cons_self)]
    exact ih fun t' ht' => h t' (List.mem_cons_of_mem t ht')

theorem allTrunks_around (t : TrunkId) : ∃ pre post, allTrunks = pre ++ t :: post ∧ ∀ t' ∈ pre, t' < t := by
  obtain ⟨pre, post, h⟩ := List.append_of_mem (List.mem_finRange t)
  have hsorted := List.pairwise_lt_finRange 8
  rw [h, List.pairwise_append] at hsorted
  exact ⟨pre, post, h, fun t' ht' => hsorted.2.2 t' ht' t List.mem_cons_self⟩

/-- The first start due of a group, taken as an event of its own, is the one that `settleStarts` takes first. -/
theorem State.settleStarts_first {s : State} {g : GroupId} {t : TrunkId} (hrun : (s.trunk t).runMember g = true)
    (hdue : (s.trunk t).tx.startDue = true)
    (hfirst : ∀ t' : TrunkId, t' < t → (s.trunk t').runMember g = true → (s.trunk t').tx.startDue = false) :
    s.settleStarts g = (s.transmitStart t).finish.settleStarts g := by
  obtain ⟨pre, post, hall, hpre⟩ := allTrunks_around t
  obtain ⟨tx, -, -, hstarted, htrunk⟩ := s.transmitStart_trunk t
  have hbefore : ∀ t' ∈ pre, (((s.transmitStart t).finish).trunk t').runMember g = true →
      (((s.transmitStart t).finish).trunk t').tx.startDue = false := by
    intro t' ht'
    rw [State.finish_trunk, htrunk, if_neg (hpre t' ht').ne]
    exact hfirst t' (hpre t' ht')
  have hself : (((s.transmitStart t).finish).trunk t).tx.startDue = false := by
    rw [State.finish_trunk, htrunk, if_pos rfl]
    exact hstarted
  unfold State.settleStarts
  rw [hall, List.foldl_append, List.foldl_append, foldl_settleStart_of_none fun t' ht' => hfirst t' (hpre t' ht'),
    foldl_settleStart_of_none hbefore, List.foldl_cons, List.foldl_cons, State.settleStart_of_due hrun hdue,
    State.settleStart_of_none fun _ => hself]

/-! ### The clock is seen by no start -/

theorem State.applyInFlight_advance (s : State) (time : Time) (p : TrunkId → Bool) :
    (s.advance time).applyInFlight p = (s.applyInFlight p).advance time := by
  unfold State.applyInFlight
  by_cases h : (s.inFlightOn p).isEmpty = true
  · exact (if_pos h).trans (congrArg (State.advance time) (if_pos h).symm)
  · refine (if_neg h).trans (Eq.trans ?_ (congrArg (State.advance time) (if_neg h).symm))
    cases hb : s.batch with
    | none =>
      have hb' : (s.advance time).batch = none := hb
      dsimp only
      rw [hb']
      rfl
    | some b =>
      have hb' : (s.advance time).batch = some b := hb
      dsimp only
      rw [hb']
      by_cases hcount : b.remaining ≤ (s.inFlightOn p).length
      · refine (if_pos hcount).trans (Eq.trans ?_ (congrArg (State.advance time) (if_pos hcount).symm))
        rfl
      · refine (if_neg hcount).trans (Eq.trans ?_ (congrArg (State.advance time) (if_neg hcount).symm))
        rfl

theorem State.underrun_advance (s : State) (time : Time) (t : TrunkId) :
    (s.advance time).underrun t = (s.underrun t).advance time := by
  unfold State.underrun
  dsimp only
  by_cases h : s.playout.episode = true
  · refine (if_pos h).trans (Eq.trans ?_ (congrArg (State.advance time) (if_pos h).symm))
    rfl
  · refine (if_neg h).trans (Eq.trans ?_ (congrArg (State.advance time) (if_neg h).symm))
    rw [State.writeRecord_eq, State.writeRecord_eq]
    rfl

theorem State.assembleSlot_advance (s : State) (time : Time) (t : TrunkId) (d : SlotId) :
    (s.advance time).assembleSlot t d = ((s.assembleSlot t d).1, (s.assembleSlot t d).2.advance time) := by
  have hout : (s.advance time).slotOutcome t d = s.slotOutcome t d := rfl
  cases h : s.slotOutcome t d with
  | undriven => rw [State.assembleSlot_of_undriven (hout.trans h), State.assembleSlot_of_undriven h]
  | value v =>
    rw [State.assembleSlot_of_value (hout.trans h), State.assembleSlot_of_value h]
    rfl
  | playout =>
    cases hq : s.playout.queue with
    | cons v rest =>
      rw [State.assembleSlot_of_queued (hout.trans h) (v := v) (rest := rest) hq, State.assembleSlot_of_queued h hq]
      rfl
    | nil =>
      rw [State.assembleSlot_of_underrun (hout.trans h) hq, State.assembleSlot_of_underrun h hq, State.underrun_advance]
      rfl

theorem State.assembleSlots_advance (t : TrunkId) (time : Time) (ds : List SlotId) (s : State) :
    State.assembleSlots t ds (s.advance time) =
      ((State.assembleSlots t ds s).1, (State.assembleSlots t ds s).2.advance time) := by
  induction ds generalizing s with
  | nil => rfl
  | cons d ds ih =>
    rw [State.assembleSlots, State.assembleSlots, State.assembleSlot_advance, ih]

theorem State.driveFrame_advance (s : State) (time : Time) (t : TrunkId) :
    (s.advance time).driveFrame t = (s.driveFrame t).advance time := by
  have hassemble := State.assembleSlots_advance t time (frameSlots (s.trunk t).format.length) s
  rw [State.driveFrame_eq, State.driveFrame_eq, State.frame, State.frame]
  simp only [State.advance_trunk, State.advance_group, hassemble]
  rfl

theorem State.transmitStart_advance (s : State) (time : Time) (t : TrunkId) :
    (s.advance time).transmitStart t = (s.transmitStart t).advance time := by
  have harmed : (s.advance time).armed t = (s.armed t).advance time := by
    rw [State.armed, State.armed, ← State.applyInFlight_advance]
    rfl
  rw [State.transmitStart_eq_drive, State.transmitStart_eq_drive, harmed, State.driveFrame_advance]

theorem State.queueNotice_advance (s : State) (time : Time) :
    (s.advance time).queueNotice = s.queueNotice.advance time := by
  unfold State.queueNotice
  by_cases h : (s.attention.noticeWaiting && !s.link.outgoing.any OutMessage.isWaitingNotice) = true
  · refine (if_pos h).trans (Eq.trans ?_ (congrArg (State.advance time) (if_pos h).symm))
    rfl
  · exact (if_neg h).trans (congrArg (State.advance time) (if_neg h).symm)

theorem State.beginSending_advance (s : State) (time : Time) :
    (s.advance time).beginSending = s.beginSending.advance time := by
  by_cases h : s.link.outgoing.head? = some (.attention none)
  · obtain ⟨rest, hout⟩ := List.head?_eq_some_iff.mp h
    rw [State.beginSending_of_notice (s := s.advance time) (rest := rest) hout, State.beginSending_of_notice hout]
    rfl
  · rw [State.beginSending_of_other (s := s.advance time) h, State.beginSending_of_other h]

theorem State.finish_advance (s : State) (time : Time) : (s.advance time).finish = s.finish.advance time := by
  rw [State.finish, State.finish, State.queueNotice_advance, State.beginSending_advance]

/-! ### A boundary after a start -/

theorem State.transmitStart_finish_group (s : State) (t : TrunkId) (g : GroupId) :
    ((s.transmitStart t).finish).group g = s.group g := by
  obtain ⟨_, _, _, _, _, _, _, _, h⟩ := s.transmitStart_eq t
  rw [State.finish_group, h]
  rfl

section FirstStart

variable {s : State} {g : GroupId} {t : TrunkId} (hrun : (s.trunk t).runMember g = true)
  (hdue : (s.trunk t).tx.startDue = true)
  (hfirst : ∀ t' : TrunkId, t' < t → (s.trunk t').runMember g = true → (s.trunk t').tx.startDue = false)

include hrun hdue hfirst

theorem State.takeBoundary_started (b : Boundary) :
    (s.transmitStart t).finish.takeBoundary g b = s.takeBoundary g b := by
  rw [State.takeBoundary, State.takeBoundary, State.settleStarts_first hrun hdue hfirst]

theorem State.settleBoundary_started (h : (s.group g).due ≠ none) :
    (s.transmitStart t).finish.settleBoundary g = s.settleBoundary g := by
  obtain ⟨b, hb⟩ := Option.ne_none_iff_exists'.mp h
  rw [State.settleBoundary, State.settleBoundary, State.transmitStart_finish_group, hb]
  dsimp only
  rw [State.takeBoundary_started hrun hdue hfirst]

theorem State.generatorBoundary_started (h : (s.group g).generator ≠ none) :
    (s.transmitStart t).finish.generatorBoundary g = s.generatorBoundary g := by
  obtain ⟨p, hp⟩ := Option.ne_none_iff_exists'.mp h
  have hadvance := State.takeBoundary_started (s := s.advance p) hrun hdue hfirst { time := p, cause := none }
  rw [State.transmitStart_advance, State.finish_advance] at hadvance
  rw [State.generatorBoundary, State.generatorBoundary, State.transmitStart_finish_group, hp]
  dsimp only
  rw [State.generatorFires, State.generatorFires, hadvance]

end FirstStart

theorem exec_transmitFrameStart_of_due {s : State} {g : GroupId} {t : TrunkId} (hs : s.Settled)
    (hrun : (s.trunk t).runMember g = true) (hdue : (s.trunk t).tx.startDue = true) :
    exec (.transmitFrameStart t) s = .next (s.transmitStart t).finish := by
  have hstate : (s.trunk t).tx.state = .run := by
    have := (Bool.and_eq_true_iff.mp hrun).2
    simpa using this
  rw [exec_transmitFrameStart, event_of_settled hs, State.frameStart, if_pos ⟨hstate, hdue⟩]

/-! ### What is due comes first -/

/-- Every row but a reset, start-up and the events that follow at once takes those events first. -/
theorem exec_settle {i : Instr} {s : State} (hw : i.wellFormed = true) (hreset : s.inReset = false)
    (hend : i ≠ .tapRunEnd) (hmessage : i ≠ .messageComplete) (htimeout : i ≠ .interByteTimeout) (hpower : i ≠ .powerOn)
    (hline : i ≠ .resetInputAsserted) (hstart : ∀ strap, i ≠ .startUp strap) : exec i s = exec i s.settle := by
  cases exec_form i with
  | request handler h hsome =>
    obtain ⟨r, hr⟩ := Option.ne_none_iff_exists'.mp hsome
    rw [h, h, taken, taken, hr]
    exact event_settle hreset _
  | event body _ h =>
    rw [h, h]
    exact event_settle hreset body
  | followOn due body hi => obtain rfl | rfl | rfl := hi <;> contradiction
  | idle hidle => exact absurd (hidle.symm.trans hw) (by simp)
  | reset kind hi => obtain rfl | rfl := hi <;> contradiction
  | startUp strap hi => exact absurd hi (hstart strap)

/-- Settles O51: what is due is what the command itself takes first. -/
theorem dueEventsComeFirst : Obligations.DueEventsComeFirst := by
  refine ⟨fun i s hw hreset hend hmessage htimeout hpower hline hstart =>
      ⟨State.settle_settled hreset, exec_settle hw hreset hend hmessage htimeout hpower hline hstart⟩,
    fun s u t time marker line hs hdue hf hu => ?_, fun s u t time hdue => ⟨fun h hf hu => ?_, fun h hl hu => ?_⟩,
    fun s u g hdue hstate haligned h hu => ?_, fun s u g t hs hrun hdue hfirst hu => ?_⟩
  · rw [exec_groupBoundary_of_due hs hdue] at hu
    obtain rfl := Host.Outcome.next.inj hu
    have hs' := (s.sameInput_settleBoundary (s.trunk t).group).settled hs
    refine ⟨fun ha hm => ?_, fun ha hm => ?_⟩
    · rw [exec_receiveFrameEnd, exec_receiveFrameEnd, event_of_settled hs, event_of_settled hs',
        State.frameEnd_settleBoundary hf (Receive.completes_iff.mpr ⟨ha, hm.imp_right Nat.lt_succ_of_le⟩)]
    · have hloses : (s.trunk t).rx.losesAlignment = true := by simp [Receive.losesAlignment, ha, hm]
      rw [exec_lossOfAlignment, exec_lossOfAlignment, event_of_settled hs, event_of_settled hs',
        State.loss_settleBoundary hf hloses]
  · exact taken_of_boundaryTaken (i := .rxHold time (trunkByte t)) rfl h hdue hu
      (handleRxHold_settleBoundary (s := s.buffered _) hf time)
  · exact taken_of_boundaryTaken (i := .txHold (trunkByte t)) rfl h hdue hu
      (handleTxHold_settleBoundary (s := s.buffered _) hl)
  · exact taken_of_boundaryTaken (i := .revert (groupByte g)) rfl h hdue hu
      (handleRevert_settleBoundary (s.buffered _) g hstate haligned)
  · rw [exec_transmitFrameStart_of_due hs hrun hdue] at hu
    obtain rfl := Host.Outcome.next.inj hu
    have hs' := (s.sameInput_transmitStart t).settled hs
    refine ⟨fun h => ?_, fun h => ?_⟩
    · have h' : ((s.transmitStart t).finish.group g).due ≠ none := by
        rw [State.transmitStart_finish_group]
        exact h
      rw [exec_groupBoundary_of_due hs h, exec_groupBoundary_of_due hs' h',
        State.settleBoundary_started hrun hdue hfirst h]
    · rw [exec_generatorBoundary, exec_generatorBoundary, event_of_settled hs, event_of_settled hs',
        State.generatorBoundary_started hrun hdue hfirst h]

end Sys2Proof.Machine
end
